-- ==== Sys2Proof/Word.lean ====
section
/-! DEFINITION. The word types of the sequencer (spec/00_scope.md R6, R8, R9): a sensor register and a bus
transfer are 8 bits, a micro-operation word, a displacement and a CPI are 16 bits, a register address is 7 bits. -/

namespace Sys2Proof

/-- One byte: a sensor register, a bus transfer, a firmware byte, a micro-program address (R6, R9, R24). -/
abbrev Byte := BitVec 8

/-- Sixteen bits: a micro-operation word, a displacement, a CPI (R9, R96). -/
abbrev Half := BitVec 16

/-- A sensor register address, `0x00` to `0x7F` (R61). -/
abbrev Addr7 := BitVec 7

end Sys2Proof
end

