-- ==== Sys2Proof/Config.lean ====
section
/-! DEFINITION. The parameters of one instance (spec/00_scope.md R6) and the free values. An `OPEN` parameter of R6
is an opaque constant: nothing in Lean can evaluate it, so a statement holds for every value of it. The constraints
of R6 and R253 hold by construction (a parameter of at least 1 is a positive integer, a width is the least
sufficient width plus an opaque slack). -/

namespace Sys2Proof.Config

/-- `CLK_HZ` as a positive integer; OPEN (R6, D4). -/
opaque clkHzPos : PNat
/-- `CLK_HZ`: the frequency of `clk`, an integer at least 1 (R6). -/
def clkHz : Nat := clkHzPos.val

/-- `SCK_HALF` as a positive integer; OPEN (R6, D5). -/
opaque sckHalfPos : PNat
/-- `SCK_HALF`: clock ticks per half period of `sck`, an integer at least 1 (R6). -/
def sckHalf : Nat := sckHalfPos.val

/-- `CS_ACTIVE` is 0: the select pin is low when select is asserted (R6, D6; PRESUMED by the spec itself, G1). -/
def csActive : Bool := false

/-- `FW_LEN`: the number of bytes of the firmware image; OPEN (R6, D18). -/
opaque fwLen : Nat
/-- `FW[i]`, meaningful for `i < FW_LEN` (R6, R62); beyond the image it is the free value of U17. -/
opaque fw : Nat → Byte

/-- How much wider than necessary `FW_IDX` is; free, so that every `FW_AW` with `2^FW_AW > FW_LEN` is an instance. -/
opaque fwAwSlack : Nat
/-- `FW_AW`: the width of `FW_IDX`, with `2^FW_AW > FW_LEN` (R6, D27). -/
def fwAw : Nat := Nat.clog 2 (fwLen + 1) + fwAwSlack

/-- `TICKS_US(100000)` written out, the longest wait of the micro-program (R6). -/
def longestWait : Nat := 100000 * clkHz / 1000000 + if 100000 * clkHz % 1000000 = 0 then 0 else 1

/-- How much wider than necessary `TPH` is; free. -/
opaque wcntWSlack : Nat
/-- `WCNT_W`: the width of `TPH`, with `2^WCNT_W > max(TICKS_US(100000), 16 × SCK_HALF)` (R6, D27). -/
def wcntW : Nat := Nat.clog 2 (max longestWait (16 * sckHalf) + 1) + wcntWSlack

/-- `REG_POWER_UP_RESET` (R6). -/
def regPowerUpReset : Addr7 := 0x3A#7
/-- `REG_CONFIG_IV` (R6). -/
def regConfigIV : Addr7 := 0x39#7
/-- `REG_SROM_ENABLE` (R6). -/
def regSromEnable : Addr7 := 0x13#7
/-- `REG_SROM_LOAD_BURST` (R6). -/
def regSromLoadBurst : Addr7 := 0x62#7
/-- `REG_LASER_CTRL` (R6). -/
def regLaserCtrl : Addr7 := 0x20#7
/-- `REG_MOTION`; OPEN (R6, D17). -/
opaque regMotion : Addr7
/-- `REG_DELTA_X_L`; OPEN (R6, D17). -/
opaque regDeltaXL : Addr7
/-- `REG_DELTA_X_H`; OPEN (R6, D17). -/
opaque regDeltaXH : Addr7
/-- `REG_DELTA_Y_L`; OPEN (R6, D17). -/
opaque regDeltaYL : Addr7
/-- `REG_DELTA_Y_H`; OPEN (R6, D17). -/
opaque regDeltaYH : Addr7
/-- `REG_CONFIG_I`; OPEN (R6, D17). -/
opaque regConfigI : Addr7
/-- `REG_MOTION_BURST`; OPEN (R6, D17). -/
opaque regMotionBurst : Addr7

/-- FREE VALUE. The byte the sensor drives in transfer number `k` of a run when the state's script of answers is
exhausted: "`rx` is a draw under no law" (R10, R124, U1). See notes/assumptions/1.md. -/
opaque sensorByte : Nat → Byte

end Sys2Proof.Config
end

