-- ==== Sys2Proof/Syntax.lean ====
section
/-! DEFINITION. The operations of the sequencer as syntax: one constructor per row of spec/opcode_table.json, at the
three levels of spec/30_encoding.md R90 (host commands, micro-operations and the two pseudo-operations, bus frames). -/

namespace Sys2Proof

/-- The destination field `dst` of `TXI`: which latch receives the answered byte (R98). -/
inductive Dst where
  /-- `-`: the answer is discarded. -/
  | none
  | rdval
  | dxl
  | dxh
  | dyl
  | dyh
deriving DecidableEq, Repr

/-- The operand `src` of `WR a, src` (R106, R142). -/
inductive WrSrc where
  /-- An immediate byte, sent by `TXI -, v`. -/
  | imm (v : Byte)
  /-- The register `RAW`, sent by `TXR`. -/
  | raw
  /-- `RDVAL & m`, sent by `TXM m`. -/
  | masked (m : Byte)
deriving DecidableEq, Repr

/-- The operations. Host commands: R91. Micro-operations: R97. The reserved opcode: R102. Pseudo-operations: R106.
Bus frames: R93 to R95. -/
inductive Instr where
  /-- Host command INIT (R160). -/
  | init
  /-- Host command GET_CONFIG (R190). -/
  | getConfig
  /-- Host command SET_CONFIG with `n = cmd_cpi` (R192). -/
  | setConfig (n : Half)
  /-- Host command GET_REPORT (R180). -/
  | getReport
  /-- Configure the serial bus (R120). -/
  | buscfg
  /-- Make the select pin an output (R121). -/
  | csout
  /-- Assert select (R122). -/
  | csa
  /-- De-assert select (R123). -/
  | csd
  /-- Transfer an immediate byte (R125). -/
  | txi (dst : Dst) (imm : Byte)
  /-- Transfer the current firmware byte (R126). -/
  | txf
  /-- Transfer the sensitivity byte (R127). -/
  | txr
  /-- Transfer `RDVAL & mask` (R128). -/
  | txm (mask : Byte)
  /-- Wait at least `n` microseconds (R140). -/
  | waitu (n : BitVec 12)
  /-- Wait at least `n` milliseconds (R141). -/
  | waitm (n : BitVec 12)
  /-- Clear the firmware index (R162). -/
  | fwz
  /-- Leave the loop when the image is exhausted (R163). -/
  | fwbr (t : Byte)
  /-- Advance to the next image byte and jump (R164). -/
  | fwnx (t : Byte)
  /-- `ALU DIV200` (R193). -/
  | aluDiv200
  /-- `ALU MUL200` (R191). -/
  | aluMul200
  /-- `ALU DEC16` (R181). -/
  | aluDec16
  /-- `FIN 0` (R205). -/
  | fin0
  /-- `FIN 1` (R205). -/
  | fin1
  /-- The reserved opcode `OP = 0x0` with its twelve low bits (R97, R102). -/
  | reservedOp0 (low : BitVec 12)
  /-- Pseudo-operation `WR a, src` (R142). -/
  | wr (a : Addr7) (src : WrSrc)
  /-- Pseudo-operation `RD a, dst` (R143). -/
  | rd (a : Addr7) (dst : Dst)
  /-- Bus frame `SINGLE_WRITE` (R93). -/
  | singleWrite (a : Addr7) (v : Byte)
  /-- Bus frame `SINGLE_READ` (R94). -/
  | singleRead (a : Addr7)
  /-- Bus frame `BURST_WRITE` (R95). -/
  | burstWrite
  /-- Bus frame `BURST_READ` (R95). -/
  | burstRead
deriving DecidableEq, Repr

end Sys2Proof
end

