-- ==== Sys2Proof/WellFormed.lean ====
section
/-! DEFINITION. Well-formed operations: those that have an encoding of their own. -/

namespace Sys2Proof

/-- A wait count is not 0 (R99, R102), and a two-byte write frame does not address the burst-load register, whose
command byte opens a `BURST_WRITE` frame (R31: it is burst-written only; R95). Every other operand is legal at every
value of its type: `dst` is one of the six of R98, an address has 7 bits (R61), a target is any byte (R100). The
reserved opcode is a word like another here: that it may not be EXECUTED is `Machine.execReservedOp0`. -/
def WellFormed : Instr → Bool
  | .waitu n => n != 0#12
  | .waitm n => n != 0#12
  | .singleWrite a _ => a != Config.regSromLoadBurst
  | .init | .getConfig | .setConfig _ | .getReport => true
  | .buscfg | .csout | .csa | .csd => true
  | .txi _ _ | .txf | .txr | .txm _ => true
  | .fwz | .fwbr _ | .fwnx _ => true
  | .aluDiv200 | .aluMul200 | .aluDec16 => true
  | .fin0 | .fin1 | .reservedOp0 _ => true
  | .wr _ _ | .rd _ _ => true
  | .singleRead _ | .burstWrite | .burstRead => true

end Sys2Proof
end

