-- ==== Sys2Proof/Decode.lean ====
section
/-! DEFINITION. Decoding and encoding (spec/30_encoding.md). The three formats `CMD`, `W16` and `FRAME` and the
six-word shorthands each have a decoder, total on every value of its format and rejecting by name; then the encoder. -/

namespace Sys2Proof

/-- Why a word, a group of words or a frame has no meaning (R102, R106, R95). -/
inductive Reject where
  /-- A "must be 0" field of R97 is not 0. -/
  | mustBeZero
  /-- `TXI` with `dst` 6 to 15 (R98). -/
  | reservedDst
  /-- `WAITU` or `WAITM` with count 0 (R99). -/
  | zeroCount
  /-- `ALU` with `fn` 0 or 4 to 15 (R101). -/
  | reservedFn
  /-- `FIN` with `r` 2 to 15 (R101). -/
  | reservedFin
  /-- A group of words that is no expansion of `WR` or `RD` (R106). -/
  | notAnExpansion
  /-- A string of bytes that is none of the four frames (R93 to R95). -/
  | notAFrame
deriving DecidableEq, Repr

/-! ## Fields of `W16` (R96) -/

/-- `OP = w[15:12]`. -/
def opField (w : Half) : BitVec 4 := w.extractLsb' 12 4
/-- `A = w[11:8]`. -/
def aField (w : Half) : BitVec 4 := w.extractLsb' 8 4
/-- `B = w[7:0]`. -/
def bField (w : Half) : Byte := w.extractLsb' 0 8
/-- `n = {A, B}` (R99). -/
def nField (w : Half) : BitVec 12 := w.extractLsb' 0 12

/-- The codes of `dst` (R98). -/
def Dst.code : Dst → BitVec 4
  | .none => 0#4
  | .rdval => 1#4
  | .dxl => 2#4
  | .dxh => 3#4
  | .dyl => 4#4
  | .dyh => 5#4

/-- The latch a code names; 6 to 15 are reserved (R98). -/
def Dst.ofCode (c : BitVec 4) : Option Dst :=
  match c.toNat with
  | 0 => some .none
  | 1 => some .rdval
  | 2 => some .dxl
  | 3 => some .dxh
  | 4 => some .dyl
  | 5 => some .dyh
  | _ => Option.none

/-- The command byte of a write to `a`, `0x80 | a`: the write flag over the address (R92). -/
def writeCommand (a : Addr7) : Byte := 1#1 ++ a
/-- The command byte of a read of `a`, which is `a` itself (R92). -/
def readCommand (a : Addr7) : Byte := 0#1 ++ a
/-- The write flag, bit 7 of a command byte (R92). -/
def writeFlag (c : Byte) : Bool := c.getLsbD 7
/-- The register address, bits 6:0 of a command byte (R92). -/
def addressOf (c : Byte) : Addr7 := c.extractLsb' 0 7

/-! ## Micro-operation words -/

/-- A word without operands: `A` and `B` must be 0 (R97, R102). -/
def bare (w : Half) (i : Instr) : Except Reject Instr :=
  if nField w = 0#12 then .ok i else .error .mustBeZero

/-- The opcode map (R97) with the checks of R102. -/
def decodeW16 (w : Half) : Except Reject Instr :=
  match (opField w).toNat with
  | 0x0 => .ok (.reservedOp0 (nField w))
  | 0x1 => bare w .buscfg
  | 0x2 => bare w .csout
  | 0x3 => bare w .csa
  | 0x4 => bare w .csd
  | 0x5 =>
    match Dst.ofCode (aField w) with
    | some dst => .ok (.txi dst (bField w))
    | Option.none => .error .reservedDst
  | 0x6 => bare w .txf
  | 0x7 => bare w .txr
  | 0x8 => if aField w = 0#4 then .ok (.txm (bField w)) else .error .mustBeZero
  | 0x9 => if nField w = 0#12 then .error .zeroCount else .ok (.waitu (nField w))
  | 0xA => if nField w = 0#12 then .error .zeroCount else .ok (.waitm (nField w))
  | 0xB => bare w .fwz
  | 0xC => if aField w = 0#4 then .ok (.fwbr (bField w)) else .error .mustBeZero
  | 0xD => if aField w = 0#4 then .ok (.fwnx (bField w)) else .error .mustBeZero
  | 0xE =>
    if bField w = 0#8 then
      match (aField w).toNat with
      | 1 => .ok .aluDiv200
      | 2 => .ok .aluMul200
      | 3 => .ok .aluDec16
      | _ => .error .reservedFn
    else .error .mustBeZero
  | _ =>
    if bField w = 0#8 then
      match (aField w).toNat with
      | 0 => .ok .fin0
      | 1 => .ok .fin1
      | _ => .error .reservedFin
    else .error .mustBeZero

/-! ## Host commands -/

/-- The command that `cmd_op` and `cmd_cpi` present; all four codes are defined, and `cmd_cpi` is ignored but by
SET_CONFIG (R91). -/
def decodeCommand (op : BitVec 2) (cpi : Half) : Instr :=
  match op.toNat with
  | 0 => .init
  | 1 => .getConfig
  | 2 => .setConfig cpi
  | _ => .getReport

/-! ## Pseudo-operations -/

/-- Reads six decoded words as the expansion of `WR` or `RD` (R106). -/
def decodeSix : Instr → Instr → Instr → Instr → Instr → Instr → Except Reject Instr
  | .csa, .txi .none c, data, .waitu t1, .csd, .waitu t2 =>
    if writeFlag c then
      if t1 = 20#12 ∧ t2 = 100#12 then
        match data with
        | .txi .none v => .ok (.wr (addressOf c) (.imm v))
        | .txr => .ok (.wr (addressOf c) .raw)
        | .txm m => .ok (.wr (addressOf c) (.masked m))
        | _ => .error .notAnExpansion
      else .error .notAnExpansion
    else
      if t1 = 1#12 ∧ t2 = 19#12 then
        match data with
        | .txi dst v => if v = 0#8 then .ok (.rd (addressOf c) dst) else .error .notAnExpansion
        | _ => .error .notAnExpansion
      else .error .notAnExpansion
  | _, _, _, _, _, _ => .error .notAnExpansion

/-- Decodes a group of micro-operation words as a pseudo-operation (R106). -/
def decodePseudo : List Half → Except Reject Instr
  | [w0, w1, w2, w3, w4, w5] =>
    match decodeW16 w0, decodeW16 w1, decodeW16 w2, decodeW16 w3, decodeW16 w4, decodeW16 w5 with
    | .ok i0, .ok i1, .ok i2, .ok i3, .ok i4, .ok i5 => decodeSix i0 i1 i2 i3 i4 i5
    | _, _, _, _, _, _ => .error .notAnExpansion
  | _ => .error .notAnExpansion

/-! ## Bus frames -/

/-- The firmware image in ascending index order (R65, R95). -/
def firmwareImage : List Byte := (List.range Config.fwLen).map Config.fw

/-- The bytes the sequencer sends between asserting and de-asserting select, read as a frame: by the first byte and
by how many bytes follow (R90, R93 to R95, R107). -/
def decodeFrame : List Byte → Except Reject Instr
  | [] => .error .notAFrame
  | c :: rest =>
    if c = writeCommand Config.regSromLoadBurst ∧ rest = firmwareImage then .ok .burstWrite
    else if c = readCommand Config.regMotionBurst ∧ rest = List.replicate 6 0#8 then .ok .burstRead
    else
      match rest with
      | [v] =>
        if writeFlag c then .ok (.singleWrite (addressOf c) v)
        else if v = 0#8 then .ok (.singleRead (addressOf c))
        else .error .notAFrame
      | _ => .error .notAFrame

/-- The row of spec/opcode_table.json that a frame's first byte matches, the narrower mask first (0xE2 and the
table's 0x50 before the write flag alone), completed with operand bytes of zeros. -/
def decodeTableFrame (c : Byte) : Instr :=
  if c = 0xE2#8 then .burstWrite
  else if c = 0x50#8 then .burstRead
  else if writeFlag c then .singleWrite (addressOf c) 0#8
  else .singleRead (addressOf c)

/-! ## All formats together -/

/-- An encoded operation, in one of the formats of R90. -/
inductive Encoded where
  /-- Format `CMD`: `cmd_op` and `cmd_cpi` (R91). -/
  | cmd (op : BitVec 2) (cpi : Half)
  /-- Format `W16`: one micro-operation word (R96). -/
  | w16 (w : Half)
  /-- A pseudo-operation's words, the first at the lowest address (R106). -/
  | pseudo (ws : List Half)
  /-- Format `FRAME`: the bytes sent, the first on the bus first (R92 to R95). -/
  | frame (bs : List Byte)
deriving DecidableEq, Repr

/-- Decodes any operation of any format. -/
def decode : Encoded → Except Reject Instr
  | .cmd op cpi => .ok (decodeCommand op cpi)
  | .w16 w => decodeW16 w
  | .pseudo ws => decodePseudo ws
  | .frame bs => decodeFrame bs

/-! ## The encoder -/

/-- A word from its three fields (R96). -/
def word (op a : BitVec 4) (b : Byte) : Half := op ++ a ++ b

/-- A word from its opcode and a 12-bit count (R99). -/
def wordN (op : BitVec 4) (n : BitVec 12) : Half := op ++ n

/-- The data transfer of `WR a, src` (R106). -/
def WrSrc.transfer : WrSrc → Half
  | .imm v => word 0x5#4 Dst.none.code v
  | .raw => word 0x7#4 0#4 0#8
  | .masked m => word 0x8#4 0#4 m

/-- The words of an operation, from the tables of R91 to R101 and R106. -/
def encode : Instr → Encoded
  | .init => .cmd 0b00#2 0#16
  | .getConfig => .cmd 0b01#2 0#16
  | .setConfig n => .cmd 0b10#2 n
  | .getReport => .cmd 0b11#2 0#16
  | .buscfg => .w16 (word 0x1#4 0#4 0#8)
  | .csout => .w16 (word 0x2#4 0#4 0#8)
  | .csa => .w16 (word 0x3#4 0#4 0#8)
  | .csd => .w16 (word 0x4#4 0#4 0#8)
  | .txi dst imm => .w16 (word 0x5#4 dst.code imm)
  | .txf => .w16 (word 0x6#4 0#4 0#8)
  | .txr => .w16 (word 0x7#4 0#4 0#8)
  | .txm mask => .w16 (word 0x8#4 0#4 mask)
  | .waitu n => .w16 (wordN 0x9#4 n)
  | .waitm n => .w16 (wordN 0xA#4 n)
  | .fwz => .w16 (word 0xB#4 0#4 0#8)
  | .fwbr t => .w16 (word 0xC#4 0#4 t)
  | .fwnx t => .w16 (word 0xD#4 0#4 t)
  | .aluDiv200 => .w16 (word 0xE#4 1#4 0#8)
  | .aluMul200 => .w16 (word 0xE#4 2#4 0#8)
  | .aluDec16 => .w16 (word 0xE#4 3#4 0#8)
  | .fin0 => .w16 (word 0xF#4 0#4 0#8)
  | .fin1 => .w16 (word 0xF#4 1#4 0#8)
  | .reservedOp0 low => .w16 (wordN 0x0#4 low)
  | .wr a src =>
    .pseudo [word 0x3#4 0#4 0#8, word 0x5#4 Dst.none.code (writeCommand a), src.transfer,
      wordN 0x9#4 20#12, word 0x4#4 0#4 0#8, wordN 0x9#4 100#12]
  | .rd a dst =>
    .pseudo [word 0x3#4 0#4 0#8, word 0x5#4 Dst.none.code (readCommand a), word 0x5#4 dst.code 0#8,
      wordN 0x9#4 1#12, word 0x4#4 0#4 0#8, wordN 0x9#4 19#12]
  | .singleWrite a v => .frame [writeCommand a, v]
  | .singleRead a => .frame [readCommand a, 0#8]
  | .burstWrite => .frame (writeCommand Config.regSromLoadBurst :: firmwareImage)
  | .burstRead => .frame (readCommand Config.regMotionBurst :: List.replicate 6 0#8)

/-! ## The table's numbering -/

/-- Which format an entry of spec/opcode_table.json of `nbits` bits has, with its value: one byte is a command for
0 to 3 and else a frame's first byte; two bytes are a micro-operation word; twelve bytes are six words, the first in
the low bits. See notes/assumptions/9.md for the byte that both formats share. -/
inductive TableForm where
  | command (op : BitVec 2)
  | word (w : Half)
  | frameByte (c : Byte)
  | words (ws : List Half)
  | unknown
deriving DecidableEq, Repr

/-- Reads an entry of the table by its width (see `TableForm`). -/
def tableForm (nbits w : Nat) : TableForm :=
  if nbits ≤ 8 then
    if w < 4 then .command (BitVec.ofNat 2 w) else .frameByte (BitVec.ofNat 8 w)
  else if nbits ≤ 16 then .word (BitVec.ofNat 16 w)
  else if nbits = 96 then
    .words [BitVec.ofNat 16 w, BitVec.ofNat 16 (w >>> 16), BitVec.ofNat 16 (w >>> 32),
      BitVec.ofNat 16 (w >>> 48), BitVec.ofNat 16 (w >>> 64), BitVec.ofNat 16 (w >>> 80)]
  else .unknown

/-- The instruction the decoder reads from a table entry; none where it refuses. -/
def decodeTableWord (nbits w : Nat) : Option Instr :=
  match tableForm nbits w with
  | .command op => some (decodeCommand op 0#16)
  | .word v => (decodeW16 v).toOption
  | .frameByte c => some (decodeTableFrame c)
  | .words ws => (decodePseudo ws).toOption
  | .unknown => Option.none

end Sys2Proof
end

