-- ==== Sys2Proof/Machine/State.lean ====
section
/-! DEFINITION. The state of the sequencer (spec/10_state.md), the reasons a step can stop, and the state after reset.
Plain data throughout. The fields after `rxsh` are not registers of the block: they are the model's record of the
environment (R10, R11, R20). -/

namespace Sys2Proof.Machine

/-- The session lifecycle (R28); the code 3 is never taken. -/
inductive Session where
  | uninit
  | initializing
  | ready
deriving DecidableEq, Repr

/-- The 2-bit value of the register `SESSION` (R28). -/
def Session.code : Session → BitVec 2
  | .uninit => 0#2
  | .initializing => 1#2
  | .ready => 2#2

/-- The event alphabet (R11). -/
inductive Event where
  /-- `CFG`: the serial bus is configured. -/
  | cfg
  /-- `OE`: the select pin becomes an output. -/
  | oe
  /-- `SEL(1)` select asserted, `SEL(0)` select de-asserted. -/
  | sel (on : Bool)
  /-- `XFER(tx, rx)`: one byte transfer. -/
  | xfer (tx rx : Byte)
  /-- `DELAY(d)`: a wait of at least `d` microseconds. -/
  | delay (us : Nat)
deriving DecidableEq, Repr

/-- The levels of the input ports `rst`, `cmd_valid`, `cmd_op`, `cmd_cpi` at one edge (R30). -/
structure Ports where
  rst : Bool
  cmdValid : Bool
  cmdOp : BitVec 2
  cmdCpi : Half
deriving DecidableEq, Repr

/-- No reset and no command presented. -/
def Ports.idle : Ports := { rst := false, cmdValid := false, cmdOp := 0#2, cmdCpi := 0#16 }

/-- An entry of the opcode table presented to the model as it stands, `nbits` bits of value `w`. -/
structure TableWord where
  nbits : Nat
  w : Nat
deriving DecidableEq, Repr

/-- The stored bytes that differ from the fixed contents, in rising order of address. -/
abbrev Memory := List Host.Cell

/-- The machine checks (R224): each ends the run. Every one is SAFE: the spec says the hardware has no state for it
and no defined behaviour after it, and the model stops. -/
inductive Fault where
  /-- `ILLEGAL_WORD`: raised by `step` when the fetched word is illegal, and by `execReservedOp0` (R102, R204). Safe. -/
  | illegalWord
  /-- `UNCONFIGURED`: raised by `selectAssert` (`CSA`, `WR`, `RD`, the frames) with `CS_OE = 0` or `BUS_CFG = 0`
  (R122). Safe. -/
  | unconfigured
  /-- `NESTED_BEGIN`: raised by `selectAssert` with `CS = 1` (R122). Safe. -/
  | nestedBegin
  /-- `UNSELECTED_TRANSFER`: raised by `transfer` (`TXI`, `TXF`, `TXR`, `TXM`) with `CS = 0` or `BUS_CFG = 0` (R124).
  Safe. -/
  | unselectedTransfer
  /-- `FW_RANGE`: raised by `transferFirmware` (`TXF`) with `FW_IDX ≥ FW_LEN` (R126). Safe. -/
  | fwRange
  /-- `FIN_SELECTED`: raised by `finish` (`FIN 0`, `FIN 1`) with `CS = 1` (R205). Safe. -/
  | finSelected
deriving DecidableEq, Repr

/-- Reasons the model gives no meaning. -/
inductive Refusal where
  /-- Raised by an arm of `exec` for an instruction that has no meaning yet. Safe: the machine stops. -/
  | notModelled (mnemonic : String)
  /-- Raised by `step` when the entry placed in the model's own slot is no row of the opcode table. Safe: the machine
  stops, and no step ever fills the slot. -/
  | slotUndecoded
deriving DecidableEq, Repr

/-- The whole state (R20). -/
@[ext]
structure State where
  /-- `SESSION` (R21, R28). -/
  session : Session
  /-- `BUSY` (R21). -/
  busy : Bool
  /-- `DONE` (R21). -/
  done : Bool
  /-- `ERR` (R21, R223). -/
  err : Bool
  /-- `X` (R21). -/
  x : Half
  /-- `Y` (R21). -/
  y : Half
  /-- `CPI` (R21). -/
  cpi : Half
  /-- `ARG` (R22). -/
  arg : Half
  /-- `RAW` (R22). -/
  raw : Byte
  /-- `RDVAL` (R22). -/
  rdval : Byte
  /-- `DXL` (R22). -/
  dxl : Byte
  /-- `DXH` (R22). -/
  dxh : Byte
  /-- `DYL` (R22). -/
  dyl : Byte
  /-- `DYH` (R22). -/
  dyh : Byte
  /-- `UPC` (R24). -/
  upc : Byte
  /-- `FW_IDX`, below `2^FW_AW` (R25). -/
  fwIdx : Nat
  /-- `TPH`, below `2^WCNT_W`; moves at the tick level only (R26). -/
  tph : Nat
  /-- `BUS_CFG` (R27). -/
  busCfg : Bool
  /-- `CS_OE` (R27). -/
  csOe : Bool
  /-- `CS` (R27). -/
  cs : Bool
  /-- `RXSH`; moves at the tick level only (R32). -/
  rxsh : Byte
  /-- The trace since reset, oldest event first (R11); the model's record, not a register (R20). -/
  trace : List Event
  /-- The micro-program memory: the bytes that differ from R104. No step writes it (R63); it is empty but where a
  word has been placed from outside (`withFetchWord`). -/
  urom : Memory
  /-- The input ports at the edges to come, one entry a step, the next first; an exhausted script presents nothing. -/
  inputs : List Ports
  /-- The bytes the sensor will answer, the next first; an exhausted script answers by `Config.sensorByte` (R10). -/
  answers : List Byte
  /-- How many bytes the sensor has answered: the counter the free value is applied to. The model's own field. -/
  draws : Nat
  /-- An opcode-table entry that is not fetched from the micro-program (a pseudo-operation or a bus frame), placed
  from outside to be run as one step. The model's own field; no step fills it. -/
  slot : Option TableWord
deriving DecidableEq, Repr

/-- What executing an operation answers. -/
abbrev Result := Host.Outcome State Fault Refusal

/-- Every register after reset (R34, R250): all zero, `SESSION = UNINIT`, an empty trace; nothing presented, nothing
answered yet, nothing placed. -/
def State.reset : State :=
  { session := .uninit, busy := false, done := false, err := false, x := 0#16, y := 0#16, cpi := 0#16,
    arg := 0#16, raw := 0#8, rdval := 0#8, dxl := 0#8, dxh := 0#8, dyl := 0#8, dyh := 0#8,
    upc := 0#8, fwIdx := 0, tph := 0, busCfg := false, csOe := false, cs := false, rxsh := 0#8,
    trace := [], urom := [], inputs := [], answers := [], draws := 0, slot := none }

end Sys2Proof.Machine
end

