-- ==== Sys2Proof/Machine/MicroProgram.lean ====
section
/-! DEFINITION. The fixed micro-program (spec/30_encoding.md R104): 113 words, transcribed in the order of the
listing. The eight words the listing marks `*` carry an OPEN register address. -/

namespace Sys2Proof.Machine

/-- The word of `TXI -, a` for a read command byte (R103 (b)). -/
def readWord (a : Addr7) : Half := 0x50#8 ++ readCommand a

/-- The word of `TXI -, 0x80 | a` for a write command byte (R103 (a)). -/
def writeWord (a : Addr7) : Half := 0x50#8 ++ writeCommand a

/-- INIT steps 1 and 2, addresses 0x00 to 0x04. -/
def resetPulseWords : List Half :=
  [0x1000#16, 0x2000#16, 0x4000#16, 0x3000#16, 0x4000#16]

/-- INIT step 3, addresses 0x05 to 0x0B. -/
def powerUpWords : List Half :=
  [0x3000#16, 0x50BA#16, 0x505A#16, 0x9014#16, 0x4000#16, 0x9064#16, 0xA032#16]

/-- INIT step 4, addresses 0x0C to 0x29. -/
def discardReadsWords : List Half :=
  [0x3000#16, readWord Config.regMotion, 0x5000#16, 0x9001#16, 0x4000#16, 0x9013#16, 0x3000#16,
    readWord Config.regDeltaXL, 0x5000#16, 0x9001#16, 0x4000#16, 0x9013#16, 0x3000#16,
    readWord Config.regDeltaXH, 0x5000#16, 0x9001#16, 0x4000#16, 0x9013#16, 0x3000#16,
    readWord Config.regDeltaYL, 0x5000#16, 0x9001#16, 0x4000#16, 0x9013#16, 0x3000#16,
    readWord Config.regDeltaYH, 0x5000#16, 0x9001#16, 0x4000#16, 0x9013#16]

/-- INIT steps 5 to 8, addresses 0x2A to 0x3C. -/
def downloadModeWords : List Half :=
  [0x3000#16, 0x50B9#16, 0x5002#16, 0x9014#16, 0x4000#16, 0x9064#16, 0x3000#16, 0x5093#16, 0x501D#16,
    0x9014#16, 0x4000#16, 0x9064#16, 0xA00A#16, 0x3000#16, 0x5093#16, 0x5018#16, 0x9014#16, 0x4000#16,
    0x9064#16]

/-- INIT steps 9 and 10, addresses 0x3D to 0x46. -/
def firmwareBurstWords : List Half :=
  [0xB000#16, 0x3000#16, 0x50E2#16, 0x900F#16, 0xC045#16, 0x6000#16, 0x900F#16, 0xD041#16, 0x4000#16,
    0xA00A#16]

/-- INIT steps 11 and 12 and its end, addresses 0x47 to 0x54. -/
def laserEnableWords : List Half :=
  [0x3000#16, 0x5020#16, 0x5100#16, 0x9001#16, 0x4000#16, 0x9013#16, 0x3000#16, 0x50A0#16, 0x80F0#16,
    0x9014#16, 0x4000#16, 0x9064#16, 0xA001#16, 0xF100#16]

/-- GET_CONFIG, addresses 0x55 to 0x5C. -/
def getConfigWords : List Half :=
  [0x3000#16, readWord Config.regConfigI, 0x5100#16, 0x9001#16, 0x4000#16, 0x9013#16, 0xE200#16, 0xF000#16]

/-- SET_CONFIG, addresses 0x5D to 0x65. -/
def setConfigWords : List Half :=
  [0xE100#16, 0x3000#16, writeWord Config.regConfigI, 0x7000#16, 0x9014#16, 0x4000#16, 0x9064#16, 0xA064#16,
    0xF000#16]

/-- GET_REPORT, addresses 0x66 to 0x70. -/
def getReportWords : List Half :=
  [0x3000#16, readWord Config.regMotionBurst, 0x5000#16, 0x5000#16, 0x5200#16, 0x5300#16, 0x5400#16,
    0x5500#16, 0x4000#16, 0xE300#16, 0xF000#16]

/-- The 113 words (R104). -/
def microWords : List Half :=
  resetPulseWords ++ powerUpWords ++ discardReadsWords ++ downloadModeWords ++ firmwareBurstWords ++
    laserEnableWords ++ getConfigWords ++ setConfigWords ++ getReportWords

/-- The word at a micro-program address: R104 for 0x00 to 0x70, the reserved word 0x0000 beyond (R63). -/
def romWord (a : Nat) : Half := microWords.getD a 0x0000#16

/-- The micro-program as bytes: the word at `a` has its low byte at `2a` and its high byte at `2a + 1`. The spec
gives the words no byte order (R65 (d)) and nothing can observe this one. -/
def romByte (k : Nat) : Byte :=
  if k % 2 = 0 then (romWord (k / 2)).extractLsb' 0 8 else (romWord (k / 2)).extractLsb' 8 8

/-- `ENTRY[cmd_op]`: where the routine of a command starts (R203). -/
def entryAddress (op : BitVec 2) : Byte :=
  match op.toNat with
  | 0 => 0x00#8
  | 1 => 0x55#8
  | 2 => 0x5D#8
  | _ => 0x66#8

end Sys2Proof.Machine
end

