-- ==== Sys2Proof/Machine/Ops.lean ====
section
/-! DEFINITION. The shared operations over memory, the trace, the sensor's answers, the bus and the counters, and the
one exception the block takes (spec/60_exceptions.md R221). -/

namespace Sys2Proof.Machine

/-! ## Sequencing of operations -/

/-- Goes on with `f` where `o` answers a next state, and stops as `o` stops otherwise. -/
def andThen (o : Result) (f : State → Result) : Result :=
  match o with
  | .next s => f s
  | .fault r => .fault r
  | .refused r => .refused r

/-! ## Micro-program memory (R63) -/

/-- How many bytes the micro-program space has: 256 words (R60, R63). -/
def memorySize : Nat := 512

/-- One byte of the micro-program space: the stored byte, or the fixed contents where none is stored. -/
def Memory.read (m : Memory) (a : Nat) : Byte :=
  match m with
  | [] => romByte a
  | c :: rest => if c.1 = a then c.2 else Memory.read rest a

/-- `m` without an entry for `a`. -/
def Memory.erase (m : Memory) (a : Nat) : Memory :=
  match m with
  | [] => []
  | c :: rest => if c.1 = a then rest else c :: Memory.erase rest a

/-- `m` with the entry `(a, b)` put in its place in the rising order. -/
def Memory.insert (m : Memory) (a : Nat) (b : Byte) : Memory :=
  match m with
  | [] => [(a, b)]
  | c :: rest =>
    if a < c.1 then (a, b) :: c :: rest
    else if c.1 = a then (a, b) :: rest
    else c :: Memory.insert rest a b

/-- Stores one byte; the value an unlisted address reads as removes the entry. -/
def Memory.write (m : Memory) (a : Nat) (b : Byte) : Memory :=
  if b = romByte a then Memory.erase m a else Memory.insert m a b

/-- The word at a word address, `MemRead(UROM, a, 2)` (R9, R63). -/
def Memory.readWord (m : Memory) (a : Byte) : Half :=
  Memory.read m (2 * a.toNat + 1) ++ Memory.read m (2 * a.toNat)

/-- Stores a word at a word address. No operation of the sequencer does it (R63). -/
def Memory.writeWord (m : Memory) (a : Byte) (w : Half) : Memory :=
  Memory.write (Memory.write m (2 * a.toNat) (w.extractLsb' 0 8)) (2 * a.toNat + 1) (w.extractLsb' 8 8)

/-- Every address in `m` is above `lo`, inside the space and strictly rising, and no entry repeats the fixed
contents. -/
def Memory.wfAbove (lo : Option Nat) (m : Memory) : Bool :=
  match m with
  | [] => true
  | c :: rest =>
    (match lo with
      | none => true
      | some a => decide (a < c.1)) &&
    decide (c.1 < memorySize) && (c.2 != romByte c.1) && Memory.wfAbove (some c.1) rest

/-- The canonical form of a memory. -/
def Memory.wf (m : Memory) : Bool := Memory.wfAbove none m

/-! ## Trace, program counter, answers (R9, R10, R11, R24) -/

/-- `Emit(e)`: appends an event to the trace (R9, R11). -/
def emit (e : Event) (s : State) : State := { s with trace := s.trace ++ [e] }

/-- `UPC <- UPC + 1` (R24). -/
def advance (s : State) : State := { s with upc := s.upc + 1#8 }

/-- `UPC <- t` (R9). -/
def jump (t : Byte) (s : State) : State := { s with upc := t }

/-- The sensor's answer number `k` from now: the next of the script, or a draw (R10). -/
def State.answer (s : State) (k : Nat) : Byte := s.answers.getD k (Config.sensorByte (s.draws + k))

/-- The sensor has answered `k` bytes more. -/
def State.consume (s : State) (k : Nat) : State :=
  { s with answers := s.answers.drop k, draws := s.draws + k }

/-! ## The bus (R120 to R124) -/

/-- `BUS_CFG <- 1 ; Emit(CFG)` and the advance (R120). -/
def configureBus (s : State) : Result := .next (advance (emit .cfg { s with busCfg := true }))

/-- `CS_OE <- 1 ; Emit(OE)` and the advance (R121). -/
def driveSelect (s : State) : Result := .next (advance (emit .oe { s with csOe := true }))

/-- Assertion of select, with its two machine checks in the order of R122. -/
def selectAssert (s : State) : Result :=
  if !s.csOe || !s.busCfg then .fault .unconfigured
  else if s.cs then .fault .nestedBegin
  else .next (advance (emit (.sel true) { s with cs := true }))

/-- De-assertion of select; legal with select already inactive (R123). -/
def selectRelease (s : State) : Result := .next (advance (emit (.sel false) { s with cs := false }))

/-- A wait of at least `us` microseconds (R140, R141). -/
def wait (us : Nat) (s : State) : Result := .next (advance (emit (.delay us) s))

/-! ## The firmware index (R25, R162, R164) -/

/-- `FW_IDX <- FW_IDX + 1` in a register of `FW_AW` bits (R25, R164). -/
def nextIndex (s : State) : State := { s with fwIdx := (s.fwIdx + 1) % 2 ^ Config.fwAw }

/-! ## The exception (R221, R228, R229) -/

/-- `Reject(op)`: `ERR <- 1` and nothing else; nothing is saved, control goes nowhere, and there is no return from it
(R221, R228, R229). -/
def takeReject (s : State) : Result := .next { s with err := true }

/-! ## Reset (R250) -/

/-- The edge with `rst = 1`: every register takes its reset value and the trace restarts empty (R34, R250, R252). The
micro-program, the script of ports and the sensor's answers are not the block's registers and stay. -/
def resetEdge (s : State) : State :=
  { State.reset with urom := s.urom, inputs := s.inputs, answers := s.answers, draws := s.draws }

end Sys2Proof.Machine
end

