-- ==== Sys2Proof/Machine/Operands.lean ====
section
/-! DEFINITION. The operand forms (spec/30_encoding.md R98, R103): the destination latch of a transfer, the transmit
byte of each kind of transfer, the byte transfer itself, and the arithmetic on the data registers. -/

namespace Sys2Proof.Machine

/-- `LATCH[dst] <- b`; `-` writes nothing (R98, R124). -/
def latch (dst : Dst) (b : Byte) (s : State) : State :=
  match dst with
  | .none => s
  | .rdval => { s with rdval := b }
  | .dxl => { s with dxl := b }
  | .dxh => { s with dxh := b }
  | .dyl => { s with dyl := b }
  | .dyh => { s with dyh := b }

/-- The byte transfer common to `TXI`, `TXF`, `TXR`, `TXM`: sends `tx`, records the exchange, and latches the answer
(R124). -/
def transfer (dst : Dst) (tx : Byte) (s : State) : Result :=
  if !s.cs || !s.busCfg then .fault .unselectedTransfer
  else .next (advance (latch dst (s.answer 0) (emit (.xfer tx (s.answer 0)) (s.consume 1))))

/-- `TXF`: the current firmware byte, with its range check before the transfer's own (R126). -/
def transferFirmware (s : State) : Result :=
  if Config.fwLen ≤ s.fwIdx then .fault .fwRange else transfer .none (Config.fw s.fwIdx) s

/-- The data transfer of `WR a, src` (R106). -/
def transferSource (src : WrSrc) (s : State) : Result :=
  match src with
  | .imm v => transfer .none v s
  | .raw => transfer .none s.raw s
  | .masked m => transfer .none (s.rdval &&& m) s

/-- The byte a transfer sends, `tx` of R125 to R128; 0 for an operation that sends none (R272). -/
def transmitByte (i : Instr) (s : State) : Byte :=
  match i with
  | .txi _ imm => imm
  | .txf => Config.fw s.fwIdx
  | .txr => s.raw
  | .txm mask => s.rdval &&& mask
  | _ => 0#8

/-- `OP` in 0x5 to 0x8: the operations that transfer a byte (R272). -/
def isTransfer (i : Instr) : Bool :=
  match i with
  | .txi _ _ | .txf | .txr | .txm _ => true
  | _ => false

/-- `(ARG div 200) mod 256` (R103 (d), R193). -/
def quantise (arg : Half) : Byte := BitVec.ofNat 8 (arg.toNat / 200)

/-- `zext_16(RDVAL) × 200`, exact (R103 (e), R191). -/
def scale (b : Byte) : Half := BitVec.ofNat 16 (b.toNat * 200)

/-- `{hi, lo}` (R103 (f), R181). -/
def assemble (hi lo : Byte) : Half := hi ++ lo

/-- `sint16(v)`: the signed reading of a displacement (R8, R181). -/
def sint16 (v : Half) : Int := if v.getLsbD 15 then (v.toNat : Int) - 65536 else v.toNat

end Sys2Proof.Machine
end

