-- ==== Sys2Proof/Machine/Flags.lean ====
section
/-! DEFINITION. The flags `BUSY`, `DONE`, `ERR` and the session (spec/10_state.md R21, R27, R28): which command a
session admits, acceptance, rejection, and the end of a command. There are no arithmetic condition codes (R27). -/

namespace Sys2Proof.Machine

/-- Which command is admitted in which session state: INIT in UNINIT, the other three in READY (R222). -/
def admitted (op : BitVec 2) (session : Session) : Bool :=
  match session with
  | .uninit => op == 0b00#2
  | .initializing => false
  | .ready => op != 0b00#2

/-- Acceptance, all writes at one edge (R201): `ARG` takes `cmd_cpi` for SET_CONFIG alone. -/
def accept (op : BitVec 2) (cpi : Half) (s : State) : State :=
  { s with
    busy := true
    done := false
    upc := entryAddress op
    session := if op = 0b00#2 then .initializing else s.session
    arg := if op = 0b10#2 then cpi else s.arg
    tph := 0 }

/-- A presented command (R200): not consumed while a command runs (R206); else accepted (R201) or rejected (R221). -/
def consumeCommand (op : BitVec 2) (cpi : Half) (s : State) : Result :=
  if s.busy then .next s
  else if admitted op s.session then .next (accept op cpi s)
  else takeReject s

/-- `FIN r`: the end of a command (R205); `UPC` stays. -/
def finish (session : Session) (s : State) : Result :=
  if s.cs then .fault .finSelected
  else .next { s with session := session, busy := false, done := true }

end Sys2Proof.Machine
end

