-- ==== Sys2Proof/Machine/Boot.lean ====
section
/-! DEFINITION. The boot sequencer (spec/42_boot_sequencer.md): the command INIT and the loop micro-operations. -/

namespace Sys2Proof.Machine

/-- INIT presented to the block: acceptance starts the routine at its entry (R160, R201, R203). -/
def execInit (s : State) : Result := consumeCommand 0b00#2 0#16 s

/-- `FWZ` (R162). -/
def execFwz (s : State) : Result := .next (advance { s with fwIdx := 0 })

/-- `FWBR t` (R163). -/
def execFwbr (t : Byte) (s : State) : Result :=
  .next (if s.fwIdx = Config.fwLen then jump t s else advance s)

/-- `FWNX t` (R164). -/
def execFwnx (t : Byte) (s : State) : Result := .next (jump t (nextIndex s))

end Sys2Proof.Machine
end

