-- ==== Sys2Proof/Machine/BusPrimitives.lean ====
section
/-! DEFINITION. The bus primitive micro-operations (spec/40_bus_primitives.md). -/

namespace Sys2Proof.Machine

/-- `BUSCFG` (R120). -/
def execBuscfg (s : State) : Result := configureBus s

/-- `CSOUT` (R121). -/
def execCsout (s : State) : Result := driveSelect s

/-- `CSA` (R122). -/
def execCsa (s : State) : Result := selectAssert s

/-- `CSD` (R123). -/
def execCsd (s : State) : Result := selectRelease s

/-- `TXI dst, imm` (R125). -/
def execTxi (dst : Dst) (imm : Byte) (s : State) : Result := transfer dst imm s

/-- `TXF` (R126). -/
def execTxf (s : State) : Result := transferFirmware s

/-- `TXR` (R127). -/
def execTxr (s : State) : Result := transfer .none s.raw s

/-- `TXM mask` (R128). -/
def execTxm (mask : Byte) (s : State) : Result := transfer .none (s.rdval &&& mask) s

end Sys2Proof.Machine
end

