-- ==== Sys2Proof/Machine/Completion.lean ====
section
/-! DEFINITION. The end of a command (spec/45_command_dispatch.md R205) and the reserved opcode
(spec/30_encoding.md R102). -/

namespace Sys2Proof.Machine

/-- `FIN 0` (R205): the session stays. -/
def execFin0 (s : State) : Result := finish s.session s

/-- `FIN 1` (R205): the session becomes READY. -/
def execFin1 (s : State) : Result := finish .ready s

/-- `OP = 0x0`: executing an illegal word is `MachineCheck(ILLEGAL_WORD)`, whatever its other bits (R102, R224). -/
def execReservedOp0 (_low : BitVec 12) (_s : State) : Result := .fault .illegalWord

end Sys2Proof.Machine
end

