-- ==== Sys2Proof/Machine/Configuration.lean ====
section
/-! DEFINITION. The configuration accessor (spec/44_configuration.md). -/

namespace Sys2Proof.Machine

/-- GET_CONFIG presented to the block: acceptance starts the routine at its entry (R190, R201, R203). -/
def execGetConfig (s : State) : Result := consumeCommand 0b01#2 0#16 s

/-- SET_CONFIG presented to the block: acceptance latches the argument and starts the routine (R192, R201, R203). -/
def execSetConfig (n : Half) (s : State) : Result := consumeCommand 0b10#2 n s

/-- `ALU MUL200` (R191). -/
def execAluMul200 (s : State) : Result := .next (advance { s with cpi := scale s.rdval })

/-- `ALU DIV200` (R193). -/
def execAluDiv200 (s : State) : Result := .next (advance { s with raw := quantise s.arg })

end Sys2Proof.Machine
end

