-- ==== Sys2Proof/Machine/RegisterAccess.lean ====
section
/-! DEFINITION. The register access layer (spec/41_register_access.md): the two waits and the two pseudo-operations,
each of which does its six micro-operations in order and stops where one of them stops. -/

namespace Sys2Proof.Machine

/-- `WAITU n` (R140). -/
def execWaitu (n : BitVec 12) (s : State) : Result := wait n.toNat s

/-- `WAITM n` (R141). -/
def execWaitm (n : BitVec 12) (s : State) : Result := wait (1000 * n.toNat) s

/-- A single write: select, command byte, data, 20 µs, de-select, 100 µs (R142). -/
def writeRegister (a : Addr7) (src : WrSrc) (s : State) : Result :=
  andThen (selectAssert s) fun s =>
  andThen (transfer .none (writeCommand a) s) fun s =>
  andThen (transferSource src s) fun s =>
  andThen (wait 20 s) fun s =>
  andThen (selectRelease s) fun s =>
  wait 100 s

/-- A single read: select, command byte, dummy byte, 1 µs, de-select, 19 µs (R143). -/
def readRegister (a : Addr7) (dst : Dst) (s : State) : Result :=
  andThen (selectAssert s) fun s =>
  andThen (transfer .none (readCommand a) s) fun s =>
  andThen (transfer dst 0#8 s) fun s =>
  andThen (wait 1 s) fun s =>
  andThen (selectRelease s) fun s =>
  wait 19 s

/-- `WR a, src` (R142). -/
def execWr (a : Addr7) (src : WrSrc) (s : State) : Result := writeRegister a src s

/-- `RD a, dst` (R143). -/
def execRd (a : Addr7) (dst : Dst) (s : State) : Result := readRegister a dst s

end Sys2Proof.Machine
end

