-- ==== Sys2Proof/Machine/Frames.lean ====
section
/-! DEFINITION. The four bus frames as operations (spec/30_encoding.md R93 to R95; spec/20_memory.md R67). A frame does
what the micro-operations that form it do on the bus and to the data registers; it is no word of the micro-program, so
`UPC` stays where it was. See notes/assumptions/8.md. -/

namespace Sys2Proof.Machine

/-- Runs the operations of a frame and puts `UPC` back. -/
def frame (ops : State → Result) (s : State) : Result :=
  andThen (ops s) fun t => .next { t with upc := s.upc }

/-- Sends `k` more image bytes from `FW_IDX` on, each followed by 15 µs (R95, R165). -/
def sendImage : Nat → State → Result
  | 0, s => .next s
  | k + 1, s =>
    andThen (transferFirmware s) fun s =>
    andThen (wait 15 s) fun s =>
    sendImage k (nextIndex s)

/-- The burst write: command byte 0xE2, 15 µs, then the whole image in ascending order (R95, R165). -/
def burstWriteOps (s : State) : Result :=
  andThen (selectAssert { s with fwIdx := 0 }) fun s =>
  andThen (transfer .none (writeCommand Config.regSromLoadBurst) s) fun s =>
  andThen (wait 15 s) fun s =>
  andThen (sendImage Config.fwLen s) fun s =>
  selectRelease s

/-- The burst read: command byte, two discarded answers, the four displacement bytes, no wait (R95, R180, R182). -/
def burstReadOps (s : State) : Result :=
  andThen (selectAssert s) fun s =>
  andThen (transfer .none (readCommand Config.regMotionBurst) s) fun s =>
  andThen (transfer .none 0#8 s) fun s =>
  andThen (transfer .none 0#8 s) fun s =>
  andThen (transfer .dxl 0#8 s) fun s =>
  andThen (transfer .dxh 0#8 s) fun s =>
  andThen (transfer .dyl 0#8 s) fun s =>
  andThen (transfer .dyh 0#8 s) fun s =>
  selectRelease s

/-- `SINGLE_WRITE` (R93). -/
def execSingleWrite (a : Addr7) (v : Byte) (s : State) : Result := frame (writeRegister a (.imm v)) s

/-- `SINGLE_READ` (R94): the answer to the dummy byte is the register's value and is kept in `RDVAL` (R22). -/
def execSingleRead (a : Addr7) (s : State) : Result := frame (readRegister a .rdval) s

/-- `BURST_WRITE` (R95). -/
def execBurstWrite (s : State) : Result := frame burstWriteOps s

/-- `BURST_READ` (R95). -/
def execBurstRead (s : State) : Result := frame burstReadOps s

end Sys2Proof.Machine
end

