-- ==== Sys2Proof/Machine/Motion.lean ====
section
/-! DEFINITION. The motion report decoder (spec/43_motion_report.md). -/

namespace Sys2Proof.Machine

/-- GET_REPORT presented to the block: acceptance starts the routine at its entry (R180, R201, R203). -/
def execGetReport (s : State) : Result := consumeCommand 0b11#2 0#16 s

/-- `ALU DEC16`: both displacements together (R181). -/
def execAluDec16 (s : State) : Result :=
  .next (advance { s with x := assemble s.dxh s.dxl, y := assemble s.dyh s.dyl })

end Sys2Proof.Machine
end

