-- ==== Sys2Proof/Machine/Dispatch.lean ====
section
/-! DEFINITION. One arm per operation: which meaning it has (spec/30_encoding.md R97, spec/45_command_dispatch.md R204). -/

namespace Sys2Proof.Machine

def exec (i : Instr) (s : State) : Host.Outcome State Fault Refusal :=
  match i with
  -- host commands (R91)
  | .init => Sys2Proof.Machine.execInit s
  | .getConfig => Sys2Proof.Machine.execGetConfig s
  | .setConfig n => Sys2Proof.Machine.execSetConfig n s
  | .getReport => Sys2Proof.Machine.execGetReport s
  -- bus primitives
  | .buscfg => Sys2Proof.Machine.execBuscfg s
  | .csout => Sys2Proof.Machine.execCsout s
  | .csa => Sys2Proof.Machine.execCsa s
  | .csd => Sys2Proof.Machine.execCsd s
  | .txi dst imm => Sys2Proof.Machine.execTxi dst imm s
  | .txf => Sys2Proof.Machine.execTxf s
  | .txr => Sys2Proof.Machine.execTxr s
  | .txm mask => Sys2Proof.Machine.execTxm mask s
  -- register access
  | .waitu n => Sys2Proof.Machine.execWaitu n s
  | .waitm n => Sys2Proof.Machine.execWaitm n s
  -- the firmware loop
  | .fwz => Sys2Proof.Machine.execFwz s
  | .fwbr t => Sys2Proof.Machine.execFwbr t s
  | .fwnx t => Sys2Proof.Machine.execFwnx t s
  -- arithmetic
  | .aluDiv200 => Sys2Proof.Machine.execAluDiv200 s
  | .aluMul200 => Sys2Proof.Machine.execAluMul200 s
  | .aluDec16 => Sys2Proof.Machine.execAluDec16 s
  -- the end of a command, and the reserved opcode
  | .fin0 => Sys2Proof.Machine.execFin0 s
  | .fin1 => Sys2Proof.Machine.execFin1 s
  | .reservedOp0 low => Sys2Proof.Machine.execReservedOp0 low s
  -- pseudo-operations
  | .wr a src => Sys2Proof.Machine.execWr a src s
  | .rd a dst => Sys2Proof.Machine.execRd a dst s
  -- bus frames
  | .singleWrite a v => Sys2Proof.Machine.execSingleWrite a v s
  | .singleRead a => Sys2Proof.Machine.execSingleRead a s
  | .burstWrite => Sys2Proof.Machine.execBurstWrite s
  | .burstRead => Sys2Proof.Machine.execBurstRead s

end Sys2Proof.Machine
end

