-- ==== Sys2Proof/Machine/Fetch.lean ====
section
/-! DEFINITION. What one step is about to do: the ports at this edge, the fetched word, the entry of the model's slot
(spec/45_command_dispatch.md R200, R204; spec/60_exceptions.md R227). Step.lean only calls these. -/

namespace Sys2Proof.Machine

/-- The input ports at this edge; an exhausted script presents nothing. -/
def portsNow (s : State) : Ports := s.inputs.headD Ports.idle

/-- The state after this edge's ports have been sampled. -/
def sampled (s : State) : State := { s with inputs := s.inputs.tail }

/-- `w <- MemRead(UROM, UPC, 2)` and its decoding (R204). -/
def fetch (s : State) : Except Reject Instr := decodeW16 (Memory.readWord s.urom s.upc)

/-- Executes the word at `UPC`; an illegal word is `MachineCheck(ILLEGAL_WORD)` (R102, R204). -/
def runWord (s : State) : Result :=
  match fetch s with
  | .ok i => exec i s
  | .error _ => .fault .illegalWord

/-- Executes the entry placed in the slot, once. -/
def runSlot (e : TableWord) (s : State) : Result :=
  match decodeTableWord e.nbits e.w with
  | some i => exec i { s with slot := none }
  | none => .refused .slotUndecoded

/-- One step with given ports, in the priority of R227: reset; then the running command's micro-operation; then a
presented command. An edge with nothing to do changes nothing (R200). -/
def stepWith (p : Ports) (s : State) : Result :=
  if p.rst then .next (resetEdge s)
  else
    match s.slot with
    | some e => runSlot e s
    | none =>
      if s.busy then runWord s
      else if p.cmdValid then exec (decodeCommand p.cmdOp p.cmdCpi) s
      else .next s

/-- The script of ports with no reset at the next edge. -/
def withoutReset : List Ports → List Ports
  | [] => []
  | p :: rest => { p with rst := false } :: rest

/-- `s` about to be presented the command `op` with argument 0. -/
def presentCommand (op : BitVec 2) (s : State) : State :=
  { s with
    slot := none
    busy := false
    inputs := { rst := false, cmdValid := true, cmdOp := op, cmdCpi := 0#16 } :: s.inputs.tail }

/-- `s` about to fetch the micro-operation word `w` at its `UPC`. -/
def placeWord (w : Half) (s : State) : State :=
  { s with
    slot := none
    busy := true
    urom := Memory.writeWord s.urom s.upc w
    inputs := withoutReset s.inputs }

/-- `s` about to run an entry of the table that the micro-program cannot hold as one word. -/
def placeEntry (e : TableWord) (s : State) : State :=
  { s with slot := some e, inputs := withoutReset s.inputs }

end Sys2Proof.Machine
end

