-- ==== Sys2Proof/Machine/Step.lean ====
section
/-! DEFINITION. The step of the sequencer at the event level (spec/45_command_dispatch.md R204): one edge's ports are
sampled and one micro-operation is executed, or one command consumed. -/

namespace Sys2Proof.Machine

/-- One step (R204). -/
def step (s : State) : Host.Outcome State Fault Refusal := stepWith (portsNow s) (sampled s)

/-- `s` with an opcode-table entry placed where the next step takes its operation from: the command ports for a
command, the micro-program word at `UPC` of a running command for a micro-operation, the slot for the rest. -/
def State.withFetchWord (s : State) (nbits w : Nat) : State :=
  match tableForm nbits w with
  | .command op => presentCommand op s
  | .word v => placeWord v s
  | .frameByte _ => placeEntry { nbits := nbits, w := w } s
  | .words _ => placeEntry { nbits := nbits, w := w } s
  | .unknown => placeEntry { nbits := nbits, w := w } s

end Sys2Proof.Machine
end

