-- ==== Sys2Proof/Machine/Listing.lean ====
section
/-! DEFINITION. The assembly column of the micro-program's listing (spec/30_encoding.md R104), transcribed apart from
the words of MicroProgram.lean: the two columns check each other. No step uses this file. -/

namespace Sys2Proof.Machine

/-- Addresses 0x00 to 0x04 (R104). -/
def resetPulseAsm : List Instr :=
  [.buscfg, .csout, .csd, .csa, .csd]

/-- Addresses 0x05 to 0x0B (R104). -/
def powerUpAsm : List Instr :=
  [.csa, .txi .none 0xBA#8, .txi .none 0x5A#8, .waitu 20#12, .csd, .waitu 100#12, .waitm 50#12]

/-- Addresses 0x0C to 0x29 (R104). -/
def discardReadsAsm : List Instr :=
  [.csa, .txi .none (readCommand Config.regMotion), .txi .none 0x00#8, .waitu 1#12, .csd, .waitu 19#12, .csa,
    .txi .none (readCommand Config.regDeltaXL), .txi .none 0x00#8, .waitu 1#12, .csd, .waitu 19#12, .csa,
    .txi .none (readCommand Config.regDeltaXH), .txi .none 0x00#8, .waitu 1#12, .csd, .waitu 19#12, .csa,
    .txi .none (readCommand Config.regDeltaYL), .txi .none 0x00#8, .waitu 1#12, .csd, .waitu 19#12, .csa,
    .txi .none (readCommand Config.regDeltaYH), .txi .none 0x00#8, .waitu 1#12, .csd, .waitu 19#12]

/-- Addresses 0x2A to 0x3C (R104). -/
def downloadModeAsm : List Instr :=
  [.csa, .txi .none 0xB9#8, .txi .none 0x02#8, .waitu 20#12, .csd, .waitu 100#12, .csa, .txi .none 0x93#8,
    .txi .none 0x1D#8, .waitu 20#12, .csd, .waitu 100#12, .waitm 10#12, .csa, .txi .none 0x93#8,
    .txi .none 0x18#8, .waitu 20#12, .csd, .waitu 100#12]

/-- Addresses 0x3D to 0x46 (R104). -/
def firmwareBurstAsm : List Instr :=
  [.fwz, .csa, .txi .none 0xE2#8, .waitu 15#12, .fwbr 0x45#8, .txf, .waitu 15#12, .fwnx 0x41#8, .csd,
    .waitm 10#12]

/-- Addresses 0x47 to 0x54 (R104). -/
def laserEnableAsm : List Instr :=
  [.csa, .txi .none 0x20#8, .txi .rdval 0x00#8, .waitu 1#12, .csd, .waitu 19#12, .csa, .txi .none 0xA0#8,
    .txm 0xF0#8, .waitu 20#12, .csd, .waitu 100#12, .waitm 1#12, .fin1]

/-- Addresses 0x55 to 0x5C (R104). -/
def getConfigAsm : List Instr :=
  [.csa, .txi .none (readCommand Config.regConfigI), .txi .rdval 0x00#8, .waitu 1#12, .csd, .waitu 19#12,
    .aluMul200, .fin0]

/-- Addresses 0x5D to 0x65 (R104). -/
def setConfigAsm : List Instr :=
  [.aluDiv200, .csa, .txi .none (writeCommand Config.regConfigI), .txr, .waitu 20#12, .csd, .waitu 100#12,
    .waitm 100#12, .fin0]

/-- Addresses 0x66 to 0x70 (R104). -/
def getReportAsm : List Instr :=
  [.csa, .txi .none (readCommand Config.regMotionBurst), .txi .none 0x00#8, .txi .none 0x00#8,
    .txi .dxl 0x00#8, .txi .dxh 0x00#8, .txi .dyl 0x00#8, .txi .dyh 0x00#8, .csd, .aluDec16, .fin0]

/-- The assembly of the 113 words (R104). -/
def listing : List Instr :=
  resetPulseAsm ++ powerUpAsm ++ discardReadsAsm ++ downloadModeAsm ++ firmwareBurstAsm ++ laserEnableAsm ++
    getConfigAsm ++ setConfigAsm ++ getReportAsm

end Sys2Proof.Machine
end

