-- ==== Sys2Proof/Machine/Tick.lean ====
section
/-! DEFINITION. The tick level (spec/70_reset_and_hazards.md R270 to R275): durations in ticks, one rising edge of
`clk`, the shifter, and the pin levels. It refines the event level of Step.lean: a micro-operation's effects appear at
the edge that ends its last tick. -/

namespace Sys2Proof.Machine

/-- `TICKS_US(d) = ceil(d × CLK_HZ / 1000000)`: the quotient, and one tick more for a remainder (R7). -/
def ticksUs (d : Nat) : Nat :=
  d * Config.clkHz / 1000000 + if d * Config.clkHz % 1000000 = 0 then 0 else 1

/-- A transfer's duration, `16 × SCK_HALF` (R271). -/
def transferTicks : Nat := 16 * Config.sckHalf

/-- `DUR` (R271). A pseudo-operation or a frame lasts as long as its micro-operations together, and a command takes
effect at one edge. -/
def duration (i : Instr) : Nat :=
  match i with
  | .buscfg | .csout | .csa | .csd | .fwz | .fwbr _ | .fwnx _ => 1
  | .aluDiv200 | .aluMul200 | .aluDec16 | .fin0 | .fin1 => 1
  | .txi _ _ | .txf | .txr | .txm _ => transferTicks
  | .waitu n => ticksUs n.toNat
  | .waitm n => ticksUs (1000 * n.toNat)
  | .wr _ _ | .singleWrite _ _ => 2 + 2 * transferTicks + ticksUs 20 + ticksUs 100
  | .rd _ _ | .singleRead _ => 2 + 2 * transferTicks + ticksUs 1 + ticksUs 19
  | .burstWrite => 2 + transferTicks + ticksUs 15 + Config.fwLen * (transferTicks + ticksUs 15)
  | .burstRead => 2 + 7 * transferTicks
  | .init | .getConfig | .setConfig _ | .getReport | .reservedOp0 _ => 1

/-- Whether the edge that ends the present tick of a transfer is the rising edge of `sck` (R273). -/
def samplesNow (s : State) : Bool := (s.tph + 1) % (2 * Config.sckHalf) == Config.sckHalf

/-- The number `j` of the bit in progress in a transfer (R273). -/
def bitNow (s : State) : Nat := s.tph / (2 * Config.sckHalf)

/-- `miso`: the sensor drives the byte it answers, the most significant bit first (R64, R129). -/
def misoNow (s : State) : Bool := (s.answer 0).getLsbD (7 - bitNow s)

/-- `b` with bit `k` set to `v`. -/
def setBit (b : Byte) (k : Nat) (v : Bool) : Byte :=
  if v then b ||| BitVec.twoPow 8 k else b &&& ~~~(BitVec.twoPow 8 k)

/-- `RXSH[7 − j] <- miso` where the tick ends with a rising edge of `sck` (R273). -/
def shiftIn (s : State) : State :=
  if samplesNow s then { s with rxsh := setBit s.rxsh (7 - bitNow s) (misoNow s) } else s

/-- A tick inside a micro-operation: `TPH <- TPH + 1` in `WCNT_W` bits, and the sampling of a transfer (R270). -/
def innerTick (i : Instr) (s : State) : State :=
  let t := if isTransfer i then shiftIn s else s
  { t with tph := (s.tph + 1) % 2 ^ Config.wcntW }

/-- The state whose next answer is what the shifter has collected (R273: the rule executes with `rx = RXSH`). -/
def withShifted (i : Instr) (s : State) : State :=
  if isTransfer i then { s with answers := s.rxsh :: s.answers.tail } else s

/-- `TPH <- 0` where an operation has completed (R270). -/
def restartTicks (o : Result) : Result := andThen o fun t => .next { t with tph := 0 }

/-- The rising edge with given ports (R200, R227, R250, R270). -/
def tick (p : Ports) (s : State) : Result :=
  if p.rst then .next (resetEdge s)
  else if s.busy then
    match fetch s with
    | .ok i =>
      if s.tph + 1 < duration i then .next (innerTick i s) else restartTicks (exec i (withShifted i s))
    | .error _ => .fault .illegalWord
  else if p.cmdValid then exec (decodeCommand p.cmdOp p.cmdCpi) s
  else .next s

/-- The edges of a list of port samples, one after the other. -/
def tickRun : List Ports → State → Result
  | [], s => .next s
  | p :: rest, s => andThen (tick p s) (tickRun rest)

/-! ## Pins -/

/-- The output ports (R30). -/
structure Pins where
  cmdReady : Bool
  busy : Bool
  done : Bool
  err : Bool
  session : BitVec 2
  x : Half
  y : Half
  cpi : Half
  ncs : Bool
  ncsOe : Bool
  sck : Bool
  mosi : Bool
  spiOe : Bool
  fwAddr : Nat
deriving DecidableEq, Repr

/-- The transfer in progress in this tick, if the word at `UPC` of a running command is one (`T` of R272). An illegal
word with `OP` in 0x5 to 0x8 (such as 0x5600) is none here: DESIGN CHOICE, notes/assumptions/28.md. -/
def transferNow (s : State) : Option Instr :=
  if s.busy then
    match fetch s with
    | .ok i => if isTransfer i then some i else none
    | .error _ => none
  else none

/-- `sck`: idles at 1; in a transfer 0 for the first half of each bit and 1 for the second (R129, R272). -/
def sckNow (s : State) : Bool :=
  match transferNow s with
  | some _ => (s.tph / Config.sckHalf) % 2 == 1
  | none => true

/-- `mosi`: 0 when idle; in a transfer bit `7 − j` of the transmit byte (R64, R272). -/
def mosiNow (s : State) : Bool :=
  match transferNow s with
  | some i => (transmitByte i s).getLsbD (7 - bitNow s)
  | none => false

/-- The pin levels during a tick (R30, R272). -/
def pins (s : State) : Pins :=
  { cmdReady := !s.busy, busy := s.busy, done := s.done, err := s.err, session := s.session.code,
    x := s.x, y := s.y, cpi := s.cpi,
    ncs := if s.cs then Config.csActive else !Config.csActive,
    ncsOe := s.csOe, sck := sckNow s, mosi := mosiNow s, spiOe := s.busCfg, fwAddr := s.fwIdx }

end Sys2Proof.Machine
end

