-- ==== Sys2Proof/Safety.lean ====
section
/-! DEFINITION. The terms the claims use: runs of steps, the traces the spec writes out, which operation writes which
register, the invariant of the states of spec/10_state.md R35 with the control facts it rests on, the select
discipline of a trace, and what may depend on the sensor. -/

namespace Sys2Proof.Machine

/-! ## Runs -/

/-- `n` steps, stopping at the first fault or refusal. -/
def runSteps : Nat → State → Result
  | 0, s => .next s
  | n + 1, s => andThen (step s) (runSteps n)

/-- No reset at the next `n` edges; everything else on the ports is arbitrary. -/
def quiet (n : Nat) (s : State) : Prop := ∀ p ∈ s.inputs.take n, p.rst = false

/-- The host presents a command at this edge. -/
def presents (op : BitVec 2) (cpi : Half) (s : State) : Prop :=
  portsNow s = { rst := false, cmdValid := true, cmdOp := op, cmdCpi := cpi }

/-- The states a run reaches from reset, whatever the host presents and the sensor answers. -/
inductive Reachable : State → Prop where
  /-- After reset, with any script of ports and any answers to come. -/
  | reset (inputs : List Ports) (answers : List Byte) (draws : Nat) :
    Reachable { State.reset with inputs := inputs, answers := answers, draws := draws }
  /-- One step further. -/
  | step (s t : State) (hs : Reachable s) (h : Machine.step s = .next t) : Reachable t

/-! ## Illegal words -/

/-- The words R102 calls illegal, in its own order, by the fields `OP`, `A`, `B` as numbers. -/
def IllegalWord (w : Half) : Prop :=
  let op := w.toNat / 4096
  let a := w.toNat / 256 % 16
  let b := w.toNat % 256
  op = 0 ∨
  (op ∈ [0x1, 0x2, 0x3, 0x4, 0x6, 0x7, 0xB] ∧ (a ≠ 0 ∨ b ≠ 0)) ∨ (op ∈ [0x8, 0xC, 0xD] ∧ a ≠ 0) ∨
  (op ∈ [0xE, 0xF] ∧ b ≠ 0) ∨
  (op = 0x5 ∧ 6 ≤ a) ∨
  (op ∈ [0x9, 0xA] ∧ a = 0 ∧ b = 0) ∨
  (op = 0xE ∧ (a = 0 ∨ 4 ≤ a)) ∨
  (op = 0xF ∧ 2 ≤ a)

/-! ## Traces the spec writes out -/

/-- The trace of `WR a, src` where the source's byte is `v` (R142). -/
def writeTrace (a : Addr7) (v : Byte) (rx0 rx1 : Byte) : List Event :=
  [.sel true, .xfer (0x80#8 ||| a.setWidth 8) rx0, .xfer v rx1, .delay 20, .sel false, .delay 100]

/-- The trace of `RD a, dst` (R143). -/
def readTrace (a : Addr7) (rx0 v : Byte) : List Event :=
  [.sel true, .xfer (a.setWidth 8) rx0, .xfer 0x00#8 v, .delay 1, .sel false, .delay 19]

/-- The image part of the firmware burst: each byte in ascending order, each followed by 15 µs (R165). -/
def imageTrace (ans : Nat → Byte) : List Event :=
  (List.range Config.fwLen).flatMap fun i => [.xfer (Config.fw i) (ans i), .delay 15]

/-- The trace of the firmware burst (R165); `ans k` is the answer to its transfer number `k`. -/
def burstTrace (ans : Nat → Byte) : List Event :=
  [.sel true, .xfer 0xE2#8 (ans 0), .delay 15] ++ imageTrace (fun i => ans (i + 1)) ++ [.sel false]

/-- The trace of GET_REPORT (R180). -/
def reportTrace (ans : Nat → Byte) : List Event :=
  [.sel true, .xfer (Config.regMotionBurst.setWidth 8) (ans 0), .xfer 0x00#8 (ans 1), .xfer 0x00#8 (ans 2),
    .xfer 0x00#8 (ans 3), .xfer 0x00#8 (ans 4), .xfer 0x00#8 (ans 5), .xfer 0x00#8 (ans 6), .sel false]

/-- INIT steps 1 to 4 (R160). -/
def bootTraceWake (ans : Nat → Byte) : List Event :=
  [.cfg, .oe, .sel false, .sel true, .sel false] ++ writeTrace 0x3A#7 0x5A#8 (ans 0) (ans 1) ++ [.delay 50000] ++
    readTrace Config.regMotion (ans 2) (ans 3) ++ readTrace Config.regDeltaXL (ans 4) (ans 5) ++
    readTrace Config.regDeltaXH (ans 6) (ans 7) ++ readTrace Config.regDeltaYL (ans 8) (ans 9) ++
    readTrace Config.regDeltaYH (ans 10) (ans 11)

/-- INIT steps 5 to 8 (R160). -/
def bootTraceDownload (ans : Nat → Byte) : List Event :=
  writeTrace 0x39#7 0x02#8 (ans 12) (ans 13) ++ writeTrace 0x13#7 0x1D#8 (ans 14) (ans 15) ++ [.delay 10000] ++
    writeTrace 0x13#7 0x18#8 (ans 16) (ans 17)

/-- INIT steps 10 to 12 (R160, R166); `ans k` is the answer to transfer number `k` after the burst. -/
def bootTraceLaser (ans : Nat → Byte) : List Event :=
  [.delay 10000] ++ readTrace 0x20#7 (ans 0) (ans 1) ++ writeTrace 0x20#7 (ans 1 &&& 0xF0#8) (ans 2) (ans 3) ++
    [.delay 1000]

/-- The trace of INIT (R160): `ans k` is the answer to its transfer number `k`. -/
def initTrace (ans : Nat → Byte) : List Event :=
  bootTraceWake ans ++ bootTraceDownload ans ++ burstTrace (fun k => ans (18 + k)) ++
    bootTraceLaser (fun k => ans (19 + Config.fwLen + k))

/-- The minimum duration an event adds, in microseconds (R11). -/
def Event.floor : Event → Nat
  | .delay us => us
  | _ => 0

/-- The sum of the minimum waits of a trace (R160). -/
def totalWait (tr : List Event) : Nat := (tr.map Event.floor).sum

/-- The bytes sent in each assertion of select, the frame in progress last (R90, R107). -/
def framesFrom (open_ : Option (List Byte)) : List Event → List (List Byte)
  | [] => open_.toList
  | .sel true :: rest => framesFrom (some []) rest
  | .sel false :: rest => open_.toList ++ framesFrom none rest
  | .xfer tx _ :: rest => framesFrom (open_.map fun bs => bs ++ [tx]) rest
  | _ :: rest => framesFrom open_ rest

/-- The frames of a trace, as the bytes sent, without those in which nothing was sent. -/
def framesOf (tr : List Event) : List (List Byte) := (framesFrom none tr).filter fun bs => !bs.isEmpty

/-! ## Which operation writes which register (the "written by" columns of R21, R22, R24 to R27, R32) -/

/-- The registers of the block (R20). -/
inductive Reg where
  | session | busy | done | err | x | y | cpi | arg | raw | rdval | dxl | dxh | dyl | dyh
  | upc | fwIdx | tph | busCfg | csOe | cs | rxsh
deriving DecidableEq, Repr

/-- The value of a register. -/
def State.reg (s : State) : Reg → Nat
  | .session => s.session.code.toNat
  | .busy => s.busy.toNat
  | .done => s.done.toNat
  | .err => s.err.toNat
  | .x => s.x.toNat
  | .y => s.y.toNat
  | .cpi => s.cpi.toNat
  | .arg => s.arg.toNat
  | .raw => s.raw.toNat
  | .rdval => s.rdval.toNat
  | .dxl => s.dxl.toNat
  | .dxh => s.dxh.toNat
  | .dyl => s.dyl.toNat
  | .dyh => s.dyh.toNat
  | .upc => s.upc.toNat
  | .fwIdx => s.fwIdx
  | .tph => s.tph
  | .busCfg => s.busCfg.toNat
  | .csOe => s.csOe.toNat
  | .cs => s.cs.toNat
  | .rxsh => s.rxsh.toNat

/-- The latch a register is, as a destination (R98). -/
def Reg.asDst : Reg → Option Dst
  | .rdval => some .rdval
  | .dxl => some .dxl
  | .dxh => some .dxh
  | .dyl => some .dyl
  | .dyh => some .dyh
  | _ => none

/-- The registers an operation may write (the "written by" columns; R201, R205, R221 for the flags). -/
def writers (i : Instr) (r : Reg) : Bool :=
  match i with
  | .init => r ∈ [Reg.session, .busy, .done, .err, .upc, .tph]
  | .getConfig | .getReport => r ∈ [Reg.busy, .done, .err, .upc, .tph]
  | .setConfig _ => r ∈ [Reg.busy, .done, .err, .upc, .tph, .arg]
  | .buscfg => r ∈ [Reg.busCfg, .upc]
  | .csout => r ∈ [Reg.csOe, .upc]
  | .csa | .csd => r ∈ [Reg.cs, .upc]
  | .txi dst _ => r = Reg.upc || (dst != .none && r.asDst == some dst)
  | .txf | .txr | .txm _ | .waitu _ | .waitm _ | .fwbr _ => r = Reg.upc
  | .fwz | .fwnx _ => r ∈ [Reg.fwIdx, .upc]
  | .aluDiv200 => r ∈ [Reg.raw, .upc]
  | .aluMul200 => r ∈ [Reg.cpi, .upc]
  | .aluDec16 => r ∈ [Reg.x, .y, .upc]
  | .fin0 => r ∈ [Reg.busy, .done]
  | .fin1 => r ∈ [Reg.session, .busy, .done]
  | .reservedOp0 _ => false
  | .wr _ _ => r ∈ [Reg.cs, .upc]
  | .rd _ dst => r ∈ [Reg.cs, .upc] || (dst != .none && r.asDst == some dst)
  | .singleWrite _ _ => r = Reg.cs
  | .singleRead _ => r ∈ [Reg.cs, .rdval]
  | .burstWrite => r ∈ [Reg.cs, .fwIdx]
  | .burstRead => r ∈ [Reg.cs, .dxl, .dxh, .dyl, .dyh]

/-! ## The invariant (R35) -/

/-- Where the micro-program asserts and de-asserts select: the addresses of each `CSA` and of the `CSD` that ends it
(R104, R261). -/
def selectSpans : List (Nat × Nat) :=
  [(0x03, 0x04), (0x05, 0x09), (0x0C, 0x10), (0x12, 0x16), (0x18, 0x1C), (0x1E, 0x22), (0x24, 0x28), (0x2A, 0x2E),
    (0x30, 0x34), (0x37, 0x3B), (0x3E, 0x45), (0x47, 0x4B), (0x4D, 0x51), (0x55, 0x59), (0x5E, 0x62), (0x66, 0x6E)]

/-- Whether select is asserted when the word at `a` executes. -/
def selectedAt (a : Nat) : Bool := selectSpans.any fun p => decide (p.1 < a) && decide (a ≤ p.2)

/-- The last address of the INIT routine (R160). -/
def initEnd : Nat := 0x54

/-- What holds of a running command by its address: the clauses (a) to (g) of R35 follow from these facts, and these
are what every step keeps. -/
structure Running (s : State) : Prop where
  /-- R35 (g): `0x00 ≤ UPC ≤ 0x70`. -/
  range : s.upc.toNat ≤ 0x70
  /-- The INIT routine runs in INITIALIZING (R28, R201). -/
  booting : s.upc.toNat ≤ initEnd → s.session = .initializing
  /-- The other routines run in READY (R222). -/
  serving : initEnd < s.upc.toNat → s.session = .ready
  /-- Select is asserted exactly inside the spans (R261). -/
  select : s.cs = selectedAt s.upc.toNat
  /-- `BUS_CFG` is set by the word at 0x00 and stays (R27, R120). -/
  configured : s.busCfg = decide (0 < s.upc.toNat)
  /-- `CS_OE` is set by the word at 0x01 and stays (R27, R121). -/
  driven : s.csOe = decide (1 < s.upc.toNat)
  /-- R165: at 0x3E to 0x41, `FW_IDX ≤ FW_LEN`. -/
  index : 0x3E ≤ s.upc.toNat → s.upc.toNat ≤ 0x41 → s.fwIdx ≤ Config.fwLen
  /-- R165: at 0x42 to 0x44, `FW_IDX < FW_LEN`. -/
  inImage : 0x42 ≤ s.upc.toNat → s.upc.toNat ≤ 0x44 → s.fwIdx < Config.fwLen
  /-- After the loop, `FW_IDX = FW_LEN` (R163). -/
  imageSent : 0x45 ≤ s.upc.toNat → s.upc.toNat ≤ initEnd → s.fwIdx = Config.fwLen

/-- What holds while no command runs. -/
structure Idle (s : State) : Prop where
  /-- R35 (a): `BUSY = 0` implies `CS = 0`. -/
  deselected : s.cs = false
  /-- INITIALIZING implies `BUSY = 1` (R28). -/
  settled : s.session ≠ .initializing
  /-- R35 (c). -/
  fresh : s.session = .uninit → s.busCfg = false ∧ s.csOe = false
  /-- R35 (d). -/
  ready : s.session = .ready → s.busCfg = true ∧ s.csOe = true

/-- The invariant every step keeps: the fixed micro-program, an empty slot, the register widths, and R35. -/
structure Inv (s : State) : Prop where
  /-- The micro-program is the one of R104 (R63). -/
  rom : s.urom = []
  /-- Nothing has been placed in the model's own slot. -/
  slot : s.slot = none
  /-- `FW_IDX` has `FW_AW` bits (R25). -/
  idxWidth : s.fwIdx < 2 ^ Config.fwAw
  /-- `TPH` has `WCNT_W` bits (R26). -/
  tphWidth : s.tph < 2 ^ Config.wcntW
  /-- R35 (e): `DONE = 1` implies `BUSY = 0`. -/
  doneIdle : s.done = true → s.busy = false
  /-- While a command runs. -/
  running : s.busy = true → Running s
  /-- While none does. -/
  idle : s.busy = false → Idle s

/-! ## The select discipline of a trace (R261, R31) -/

/-- Where a trace stands with respect to select. -/
inductive Phase where
  /-- Select is de-asserted. -/
  | off
  /-- Select is asserted and nothing has been sent yet. -/
  | opened
  /-- Select is asserted and the command byte has been sent. -/
  | moved
deriving DecidableEq, Repr

/-- The command bytes of the accesses in the table of R31: the sequencer sends no other. -/
def commandBytes : List Byte :=
  [writeCommand Config.regPowerUpReset, readCommand Config.regMotion, readCommand Config.regDeltaXL,
    readCommand Config.regDeltaXH, readCommand Config.regDeltaYL, readCommand Config.regDeltaYH,
    writeCommand Config.regConfigIV, writeCommand Config.regSromEnable, writeCommand Config.regSromLoadBurst,
    readCommand Config.regLaserCtrl, writeCommand Config.regLaserCtrl, readCommand Config.regConfigI,
    writeCommand Config.regConfigI, readCommand Config.regMotionBurst]

/-- One event of a disciplined trace: select is never asserted twice, nothing is sent outside an assertion, and what
is sent first in an assertion is one of `commandBytes`. None where the event breaks the discipline. -/
def phaseAfter (p : Option Phase) (e : Event) : Option Phase :=
  match p, e with
  | none, _ => none
  | some .off, .sel true => some .opened
  | some .opened, .sel true => none
  | some .moved, .sel true => none
  | some _, .sel false => some .off
  | some .off, .xfer _ _ => none
  | some .opened, .xfer tx _ => if tx ∈ commandBytes then some .moved else none
  | some .moved, .xfer _ _ => some .moved
  | some p, .cfg => some p
  | some p, .oe => some p
  | some p, .delay _ => some p

/-- The phase a whole trace ends in; none if it breaks the discipline. -/
def busPhase (tr : List Event) : Option Phase := tr.foldl phaseAfter (some .off)

/-- The phase before the word at `a` executes. -/
def phaseAt (a : Nat) : Phase :=
  if selectedAt a then
    if selectSpans.any fun p => decide (a = p.1 + 1) then .opened else .moved
  else .off

/-- The trace since reset is disciplined and stands where the running command says. -/
def Disciplined (s : State) : Prop :=
  busPhase s.trace = some (if s.busy then phaseAt s.upc.toNat else .off)

/-! ## What may depend on the sensor (R204, R220) -/

/-- The kind of an event: a transfer without the two bytes. -/
def Event.kind : Event → Event
  | .xfer _ _ => .xfer 0#8 0#8
  | e => e

/-- Two states that differ at most in what the sensor has answered and will answer: the read latches, the result
registers, the shifter and the bytes of the transfers. -/
structure SameControl (s t : State) : Prop where
  session : s.session = t.session
  busy : s.busy = t.busy
  done : s.done = t.done
  err : s.err = t.err
  arg : s.arg = t.arg
  raw : s.raw = t.raw
  upc : s.upc = t.upc
  fwIdx : s.fwIdx = t.fwIdx
  tph : s.tph = t.tph
  busCfg : s.busCfg = t.busCfg
  csOe : s.csOe = t.csOe
  cs : s.cs = t.cs
  kinds : s.trace.map Event.kind = t.trace.map Event.kind
  urom : s.urom = t.urom
  inputs : s.inputs = t.inputs
  slot : s.slot = t.slot

/-! ## Latency (R274) -/

/-- The ticks from the edge that accepts a command to the edge at which `FIN` sets `DONE` (R274). -/
def latency (op : BitVec 2) : Nat :=
  let h := Config.sckHalf
  let l := Config.fwLen
  match op.toNat with
  | 0 =>
    32 + 2 * l + 16 * h * (23 + l) + 5 * ticksUs 20 + 5 * ticksUs 100 + 6 * ticksUs 1 + 6 * ticksUs 19 +
      ticksUs 50000 + 2 * ticksUs 10000 + ticksUs 1000 + (1 + l) * ticksUs 15
  | 1 => 4 + 32 * h + ticksUs 1 + ticksUs 19
  | 2 => 4 + 32 * h + ticksUs 20 + ticksUs 100 + ticksUs 100000
  | _ => 4 + 112 * h

end Sys2Proof.Machine
end

