-- ==== Sys2Proof/Certificates/Slice0/Obligations.lean ====
section
/-! DEFINITION. The statements for the provers, from the numbered rules of spec/. Where a statement gives the next
state as a whole record, every field it does not name is unchanged: registers, flags, memory and environment. Where a
statement over all states says UPC + 1, its wrap from 0xFF to 0x00 is the model's choice (R24 gives it no meaning;
notes/assumptions/13.md). -/

open Sys2Proof Sys2Proof.Machine

/-! ## Encoding -/

/-- Decoding the encoding of a well-formed operation gives it back, with every operand at every value (30_encoding.md
R91 to R101, R106). -/
def Obligations.DecodeEncodeRoundTrip : Prop := ∀ i : Instr, WellFormed i = true → decode (encode i) = .ok i

/-- A micro-operation word has one reading: a word that decodes is the encoding of what it decodes to, which is
well-formed (R96 to R101). -/
def Obligations.EncodeOfDecodedWord : Prop :=
  ∀ (w : Half) (i : Instr), decodeW16 w = .ok i → encode i = .w16 w ∧ WellFormed i = true

/-- The illegal words are those R102 lists: the decoder rejects them or reads the reserved opcode, a running command
that fetches one stops with ILLEGAL_WORD, and the micro-program has none below 0x71. -/
def Obligations.IllegalWordsAreCaught : Prop :=
  (∀ w : Half, IllegalWord w ↔ (∃ r, decodeW16 w = .error r) ∨ ∃ low, decodeW16 w = .ok (.reservedOp0 low)) ∧
  (∀ s : State, (portsNow s).rst = false → s.slot = none → s.busy = true →
    IllegalWord (s.urom.readWord s.upc) → step s = .fault .illegalWord) ∧
  (∀ a, a ≤ 0x70 → ¬ IllegalWord (romWord a)) ∧ (∀ a, 0x70 < a → IllegalWord (romWord a))

/-- Every word of the micro-program decodes to the assembly the listing prints beside it, and 0x71 to 0xFF hold 0
(R104). -/
def Obligations.MicroProgramMatchesListing : Prop :=
  listing.length = 113 ∧
  (∀ a i, listing[a]? = some i → decodeW16 (romWord a) = .ok i) ∧ ∀ a, 0x70 < a → romWord a = 0x0000#16

/-- Words written out from the encodings decode to what they stand for, one per family (95_test_vectors.md 2.1). The
last clause, that the byte 0xE2 alone is BURST_WRITE, is the model's reading of a table byte
(notes/assumptions/9.md): on the bus a frame is told apart by how many bytes follow as well (R90). -/
def Obligations.WrittenWordsDecode : Prop :=
  decodeW16 0b0101000100000000#16 = .ok (.txi .rdval 0x00#8) ∧
  decodeW16 0b1000000011110000#16 = .ok (.txm 0xF0#8) ∧
  decodeW16 0b1001000000010100#16 = .ok (.waitu 20#12) ∧
  decodeW16 0b1100000001000101#16 = .ok (.fwbr 0x45#8) ∧
  decodeW16 0b1110001000000000#16 = .ok .aluMul200 ∧
  decodeW16 0b1111000100000000#16 = .ok .fin1 ∧
  decode (.cmd 0b10#2 1800#16) = .ok (.setConfig 1800#16) ∧
  decodePseudo [0x3000#16, 0x50BA#16, 0x505A#16, 0x9014#16, 0x4000#16, 0x9064#16] = .ok (.wr 0x3A#7 (.imm 0x5A#8)) ∧
  decodeTableWord 8 0xE2 = some .burstWrite

/-! ## A step runs the decoded operation -/

/-- Where nothing is in the slot and no reset is asked for: a running command's word that decodes to `i` makes the
step `exec i`, and an idle block presented a command makes it that command's `exec`, both at the state whose ports
have been sampled; with nothing presented the step changes nothing else. An entry in the slot that decodes to `i`
makes the step `exec i` with the slot emptied (the slot is the model's own, notes/assumptions/7.md). -/
def Obligations.StepRunsDecodedOperation : Prop :=
  ∀ s : State, (portsNow s).rst = false →
    (∀ i, s.slot = none → s.busy = true → decodeW16 (s.urom.readWord s.upc) = .ok i →
      step s = exec i { s with inputs := s.inputs.tail }) ∧
    (s.slot = none → s.busy = false → (portsNow s).cmdValid = true →
      step s = exec (decodeCommand (portsNow s).cmdOp (portsNow s).cmdCpi) { s with inputs := s.inputs.tail }) ∧
    (s.slot = none → s.busy = false → (portsNow s).cmdValid = false →
      step s = .next { s with inputs := s.inputs.tail }) ∧
    (∀ e i, s.slot = some e → decodeTableWord e.nbits e.w = some i →
      step s = exec i { s with inputs := s.inputs.tail, slot := none })

/-- A table entry placed by `withFetchWord` is what the very next step runs, at a state that differs from the given
one only in what the placing takes: the flag BUSY, the word at UPC, the ports of this edge and the slot. -/
def Obligations.PlacedWordRunsNext : Prop :=
  ∀ (s : State) (nbits w : Nat) (i : Instr), s.urom.wf = true → decodeTableWord nbits w = some i →
    ∃ (u : State), step (s.withFetchWord nbits w) = exec i u ∧ u.slot = none ∧ u.inputs = s.inputs.tail ∧
      u = { s with busy := u.busy, urom := u.urom, inputs := u.inputs, slot := none } ∧
      ∀ a, a ≠ 2 * s.upc.toNat → a ≠ 2 * s.upc.toNat + 1 → u.urom.read a = s.urom.read a

/-! ## Memory -/

/-- No operation and no step writes the micro-program (R63, R74): every byte reads after as before. -/
def Obligations.MicroProgramIsReadOnly : Prop :=
  (∀ (i : Instr) (s t : State), exec i s = .next t → ∀ a, t.urom.read a = s.urom.read a) ∧
  (∀ s t : State, step s = .next t → ∀ a, t.urom.read a = s.urom.read a)

/-! ## Bus primitives (40_bus_primitives.md) -/

/-- BUSCFG and CSOUT run in every state: one flag set, one event, the next word (R120, R121). -/
def Obligations.BusSetupRuns : Prop :=
  ∀ s : State,
    exec .buscfg s = .next { s with busCfg := true, trace := s.trace ++ [.cfg], upc := s.upc + 1#8 } ∧
    exec .csout s = .next { s with csOe := true, trace := s.trace ++ [.oe], upc := s.upc + 1#8 }

/-- CSA asserts select where the bus and the pin are set up and select is inactive; else it stops, UNCONFIGURED tested
before NESTED_BEGIN (R122, R227). -/
def Obligations.SelectAssertRunsOrStops : Prop :=
  ∀ s : State,
    (s.csOe = true → s.busCfg = true → s.cs = false →
      exec .csa s = .next { s with cs := true, trace := s.trace ++ [.sel true], upc := s.upc + 1#8 }) ∧
    (s.csOe = false ∨ s.busCfg = false → exec .csa s = .fault .unconfigured) ∧
    (s.csOe = true → s.busCfg = true → s.cs = true → exec .csa s = .fault .nestedBegin)

/-- CSD de-asserts select in every state, and records the event even where nothing changes (R123). -/
def Obligations.SelectReleaseRuns : Prop :=
  ∀ s : State, exec .csd s = .next { s with cs := false, trace := s.trace ++ [.sel false], upc := s.upc + 1#8 }

/-- The four transfers inside an assertion on a configured bus: each sends its byte, records the sensor's answer, and
`TXI` alone latches it, in the register its `dst` names (R124 to R128). -/
def Obligations.TransfersRun : Prop :=
  ∀ s : State, s.cs = true → s.busCfg = true →
    let rx := s.answer 0
    let sent (tx : Byte) : State :=
      { s with answers := s.answers.drop 1, draws := s.draws + 1, trace := s.trace ++ [.xfer tx rx],
               upc := s.upc + 1#8 }
    (∀ imm, exec (.txi .none imm) s = .next (sent imm)) ∧
    (∀ imm, exec (.txi .rdval imm) s = .next { sent imm with rdval := rx }) ∧
    (∀ imm, exec (.txi .dxl imm) s = .next { sent imm with dxl := rx }) ∧
    (∀ imm, exec (.txi .dxh imm) s = .next { sent imm with dxh := rx }) ∧
    (∀ imm, exec (.txi .dyl imm) s = .next { sent imm with dyl := rx }) ∧
    (∀ imm, exec (.txi .dyh imm) s = .next { sent imm with dyh := rx }) ∧
    (s.fwIdx < Config.fwLen → exec .txf s = .next (sent (Config.fw s.fwIdx))) ∧
    exec .txr s = .next (sent s.raw) ∧
    (∀ mask, exec (.txm mask) s = .next (sent (s.rdval &&& mask)))

/-- A transfer outside an assertion or on an unconfigured bus stops, and TXF past the image stops first (R124, R126,
R227). -/
def Obligations.TransfersStop : Prop :=
  ∀ s : State,
    (s.cs = false ∨ s.busCfg = false →
      (∀ dst imm, exec (.txi dst imm) s = .fault .unselectedTransfer) ∧
      exec .txr s = .fault .unselectedTransfer ∧ (∀ m, exec (.txm m) s = .fault .unselectedTransfer) ∧
      (s.fwIdx < Config.fwLen → exec .txf s = .fault .unselectedTransfer)) ∧
    (Config.fwLen ≤ s.fwIdx → exec .txf s = .fault .fwRange)

/-! ## Register access (41_register_access.md) -/

/-- WAITU and WAITM run in every state: they record a wait of n µs or 1000 n µs and change nothing else (R140,
R141). The spec gives counts from 1 on; that n = 0, which no legal word encodes (R102), records DELAY(0) is the model's
choice (notes/assumptions/16.md). -/
def Obligations.WaitsRun : Prop :=
  ∀ (n : BitVec 12) (s : State),
    exec (.waitu n) s = .next { s with trace := s.trace ++ [.delay n.toNat], upc := s.upc + 1#8 } ∧
    exec (.waitm n) s = .next { s with trace := s.trace ++ [.delay (1000 * n.toNat)], upc := s.upc + 1#8 }

/-- WR from idle select on a configured bus: exactly the trace of R142 with the byte its source names, both answers
discarded, six words passed, nothing else changed. -/
def Obligations.WriteRegisterRuns : Prop :=
  ∀ (a : Addr7) (s : State), s.csOe = true → s.busCfg = true → s.cs = false →
    let wrote (v : Byte) : State :=
      { s with answers := s.answers.drop 2, draws := s.draws + 2, upc := s.upc + 6#8,
               trace := s.trace ++ writeTrace a v (s.answer 0) (s.answer 1) }
    (∀ v, exec (.wr a (.imm v)) s = .next (wrote v)) ∧
    exec (.wr a .raw) s = .next (wrote s.raw) ∧
    (∀ m, exec (.wr a (.masked m)) s = .next (wrote (s.rdval &&& m)))

/-- RD from idle select on a configured bus: exactly the trace of R143, the answer to the dummy byte in the latch
`dst` names, six words passed, nothing else changed. -/
def Obligations.ReadRegisterRuns : Prop :=
  ∀ (a : Addr7) (s : State), s.csOe = true → s.busCfg = true → s.cs = false →
    let v := s.answer 1
    let read : State :=
      { s with answers := s.answers.drop 2, draws := s.draws + 2, upc := s.upc + 6#8,
               trace := s.trace ++ readTrace a (s.answer 0) v }
    exec (.rd a .none) s = .next read ∧
    exec (.rd a .rdval) s = .next { read with rdval := v } ∧
    exec (.rd a .dxl) s = .next { read with dxl := v } ∧ exec (.rd a .dxh) s = .next { read with dxh := v } ∧
    exec (.rd a .dyl) s = .next { read with dyl := v } ∧ exec (.rd a .dyh) s = .next { read with dyh := v }

/-- A pseudo-operation is its six words (R106, R142, R143): where the words of `encode i` stand from UPC on, six steps
without reset do what `exec i` does, and stop where it stops. -/
def Obligations.PseudoOperationIsItsSixWords : Prop :=
  ∀ (i : Instr) (ws : List Half) (s : State), encode i = .pseudo ws → s.slot = none → s.busy = true → quiet 6 s →
    (∀ k w, ws[k]? = some w → s.urom.readWord (s.upc + BitVec.ofNat 8 k) = w) →
    runSteps 6 s = exec i { s with inputs := s.inputs.drop 6 }

/-! ## Boot (42_boot_sequencer.md) -/

/-- FWZ, FWBR and FWNX run in every state, record no event and change only FW_IDX and UPC; the increment does not wrap
inside the image (R162, R163, R164). -/
def Obligations.FirmwareLoopOpsRun : Prop :=
  ∀ (t : Byte) (s : State),
    exec .fwz s = .next { s with fwIdx := 0, upc := s.upc + 1#8 } ∧
    (s.fwIdx = Config.fwLen → exec (.fwbr t) s = .next { s with upc := t }) ∧
    (s.fwIdx ≠ Config.fwLen → exec (.fwbr t) s = .next { s with upc := s.upc + 1#8 }) ∧
    (∃ k, exec (.fwnx t) s = .next { s with fwIdx := k, upc := t } ∧
      (s.fwIdx < Config.fwLen → k = s.fwIdx + 1))

/-- The firmware burst (R165): from 0x3D the words 0x3D to 0x45 send, in one assertion of select, 0xE2 and then
exactly the FW_LEN image bytes in ascending order, each followed by 15 µs, and leave FW_IDX = FW_LEN at 0x46; every
answer is discarded. -/
def Obligations.FirmwareBurstSendsTheImage : Prop :=
  ∀ s : State, s.urom = [] → s.slot = none → s.busy = true → s.upc = 0x3D#8 → s.cs = false →
    s.csOe = true → s.busCfg = true → quiet (6 + 4 * Config.fwLen) s →
    runSteps (6 + 4 * Config.fwLen) s =
      .next { s with upc := 0x46#8, fwIdx := Config.fwLen, inputs := s.inputs.drop (6 + 4 * Config.fwLen),
                     answers := s.answers.drop (1 + Config.fwLen), draws := s.draws + (1 + Config.fwLen),
                     trace := s.trace ++ burstTrace s.answer }

/-- INIT (R160): presented to a block in UNINIT, it is accepted and its routine of `82 + 4 × FW_LEN` steps without
reset ends in READY with exactly the trace of the twelve steps, RDVAL holding the laser-control byte read, and no other
register written but FW_IDX, the bus flags, UPC and the command flags. -/
def Obligations.InitRunsToReady : Prop :=
  ∀ (s : State) (n : Half), Inv s → s.busy = false → s.session = .uninit → presents 0b00#2 n s →
    quiet (83 + 4 * Config.fwLen) s →
    runSteps (83 + 4 * Config.fwLen) s =
      .next { s with session := .ready, busy := false, done := true, upc := 0x54#8, tph := 0,
                     rdval := s.answer (20 + Config.fwLen), fwIdx := Config.fwLen,
                     busCfg := true, csOe := true, cs := false,
                     inputs := s.inputs.drop (83 + 4 * Config.fwLen),
                     answers := s.answers.drop (23 + Config.fwLen), draws := s.draws + (23 + Config.fwLen),
                     trace := s.trace ++ initTrace s.answer }

/-- The trace of INIT (R160, R161; 95_test_vectors.md T6): `79 + 2 × FW_LEN` events, `71735 + 15 × FW_LEN` µs of
minimum waits, and its frames are, in order, the transactions of the source's boot scenario with five discard reads
(90_conflicts.md C1). -/
def Obligations.InitTraceIsTheBootScenario : Prop :=
  ∀ ans : Nat → Byte,
    (initTrace ans).length = 79 + 2 * Config.fwLen ∧
    totalWait (initTrace ans) = 71735 + 15 * Config.fwLen ∧
    (framesOf (initTrace ans)).map decodeFrame =
      [.ok (.singleWrite 0x3A#7 0x5A#8),
       .ok (.singleRead Config.regMotion), .ok (.singleRead Config.regDeltaXL), .ok (.singleRead Config.regDeltaXH),
       .ok (.singleRead Config.regDeltaYL), .ok (.singleRead Config.regDeltaYH),
       .ok (.singleWrite 0x39#7 0x02#8), .ok (.singleWrite 0x13#7 0x1D#8), .ok (.singleWrite 0x13#7 0x18#8),
       .ok .burstWrite,
       .ok (.singleRead 0x20#7), .ok (.singleWrite 0x20#7 (ans (20 + Config.fwLen) &&& 0xF0#8))]

/-! ## Motion report (43_motion_report.md) -/

/-- ALU DEC16 puts `{DXH, DXL}` in X and `{DYH, DYL}` in Y, and the signed reading is the source's law: the unsigned
value below 0x8000, else that value less 65536 (R181, R8). -/
def Obligations.DecodesSignedDisplacements : Prop :=
  ∀ s : State, ∃ vx vy : Half,
    exec .aluDec16 s = .next { s with x := vx, y := vy, upc := s.upc + 1#8 } ∧
    vx.toNat = 256 * s.dxh.toNat + s.dxl.toNat ∧ vy.toNat = 256 * s.dyh.toNat + s.dyl.toNat ∧
    (∀ v : Half, sint16 v = if v.toNat < 32768 then (v.toNat : Int) else (v.toNat : Int) - 65536) ∧
    (∀ v : Half, 32768 ≤ v.toNat → sint16 v = -(((~~~v).toNat : Int) + 1))

/-- GET_REPORT (R180, R182): presented to an idle block in READY, its eleven steps send seven bytes in one frame with
no wait, decode answers 3 to 6 low byte first, discard the first three, and write nothing else but UPC and the command
flags. -/
def Obligations.GetReportRuns : Prop :=
  ∀ (s : State) (n : Half), Inv s → s.busy = false → s.session = .ready → presents 0b11#2 n s → quiet 12 s →
    runSteps 12 s =
      .next { s with done := true, upc := 0x70#8, tph := 0,
                     dxl := s.answer 3, dxh := s.answer 4, dyl := s.answer 5, dyh := s.answer 6,
                     x := s.answer 4 ++ s.answer 3, y := s.answer 6 ++ s.answer 5,
                     inputs := s.inputs.drop 12, answers := s.answers.drop 7, draws := s.draws + 7,
                     trace := s.trace ++ reportTrace s.answer }

/-! ## Configuration (44_configuration.md) -/

/-- ALU MUL200 gives CPI = 200 × RDVAL exactly, and ALU DIV200 gives RAW = (ARG div 200) mod 256, in every state, with
nothing else changed but UPC (R191, R193). -/
def Obligations.SensitivityArithmetic : Prop :=
  ∀ s : State,
    (∃ v : Half, exec .aluMul200 s = .next { s with cpi := v, upc := s.upc + 1#8 } ∧
      v.toNat = 200 * s.rdval.toNat ∧ v.toNat ≤ 51000) ∧
    (∃ v : Byte, exec .aluDiv200 s = .next { s with raw := v, upc := s.upc + 1#8 } ∧
      v.toNat = s.arg.toNat / 200 % 256)

/-- GET_CONFIG (R190): presented to an idle block in READY, its eight steps read configuration-I and leave
CPI = 200 × the byte the sensor answered. -/
def Obligations.GetConfigRuns : Prop :=
  ∀ (s : State) (n : Half), Inv s → s.busy = false → s.session = .ready → presents 0b01#2 n s → quiet 9 s →
    runSteps 9 s =
      .next { s with done := true, upc := 0x5C#8, tph := 0,
                     rdval := s.answer 1, cpi := BitVec.ofNat 16 (200 * (s.answer 1).toNat),
                     inputs := s.inputs.drop 9, answers := s.answers.drop 2, draws := s.draws + 2,
                     trace := s.trace ++ readTrace Config.regConfigI (s.answer 0) (s.answer 1) }

/-- SET_CONFIG n (R192): presented to an idle block in READY, its nine steps write (n div 200) mod 256 to
configuration-I and then wait 100 ms; CPI is not written. -/
def Obligations.SetConfigRuns : Prop :=
  ∀ (s : State) (n : Half), Inv s → s.busy = false → s.session = .ready → presents 0b10#2 n s → quiet 10 s →
    runSteps 10 s =
      .next { s with done := true, upc := 0x65#8, tph := 0,
                     arg := n, raw := BitVec.ofNat 8 (n.toNat / 200 % 256),
                     inputs := s.inputs.drop 10, answers := s.answers.drop 2, draws := s.draws + 2,
                     trace := s.trace ++
                       writeTrace Config.regConfigI (BitVec.ofNat 8 (n.toNat / 200 % 256)) (s.answer 0) (s.answer 1) ++
                       [.delay 100000] }

/-- The laws of the two commands together (R194). If the sensor answers the read of configuration-I with the byte
SET_CONFIG wrote, then SET_CONFIG n followed by GET_CONFIG leaves CPI = 200 × (n div 200) = n − n mod 200 for n up to
51199, hence n itself for a multiple of 200 up to 51000; with any sensor CPI is 200 × the byte it answered. -/
def Obligations.CpiRoundTrip : Prop :=
  ∀ (s : State) (n k : Half), Inv s → s.busy = false → s.session = .ready → presents 0b10#2 n s →
    s.inputs[10]? = some { rst := false, cmdValid := true, cmdOp := 0b01#2, cmdCpi := k } → quiet 19 s →
    ∃ t, runSteps 19 s = .next t ∧ t.busy = false ∧ t.done = true ∧
      t.cpi.toNat = 200 * (s.answer 3).toNat ∧
      ((s.answer 3).toNat = n.toNat / 200 % 256 → n.toNat ≤ 51199 →
        t.cpi.toNat = 200 * (n.toNat / 200) ∧ t.cpi.toNat = n.toNat - n.toNat % 200) ∧
      ((s.answer 3).toNat = n.toNat / 200 % 256 → n.toNat % 200 = 0 → n.toNat ≤ 51000 → t.cpi = n)

/-! ## Commands (45_command_dispatch.md, 60_exceptions.md) -/

/-- Acceptance (R201, R203): an idle block takes INIT in UNINIT and the other three in READY, with exactly these
writes; only SET_CONFIG latches its argument. -/
def Obligations.AdmittedCommandsAreAccepted : Prop :=
  ∀ (s : State), s.busy = false →
    (s.session = .uninit →
      exec .init s = .next { s with busy := true, done := false, upc := 0x00#8, tph := 0, session := .initializing }) ∧
    (s.session = .ready →
      exec .getConfig s = .next { s with busy := true, done := false, upc := 0x55#8, tph := 0 } ∧
      (∀ n, exec (.setConfig n) s =
        .next { s with busy := true, done := false, upc := 0x5D#8, tph := 0, arg := n }) ∧
      exec .getReport s = .next { s with busy := true, done := false, upc := 0x66#8, tph := 0 })

/-- Rejection (R221, R222, R228): a consumed command the session does not admit sets ERR and does nothing else: INIT in
READY, the other three in UNINIT. In INITIALIZING no command is consumed, since BUSY is 1 there (R222, R28);
`InitializingRejectsWhereIdle` says what the model does in a state that breaks that. -/
def Obligations.OtherCommandsAreRejected : Prop :=
  ∀ (s : State), s.busy = false →
    (s.session = .ready → exec .init s = .next { s with err := true }) ∧
    (s.session = .uninit →
      exec .getConfig s = .next { s with err := true } ∧ (∀ n, exec (.setConfig n) s = .next { s with err := true }) ∧
      exec .getReport s = .next { s with err := true })

/-- A command presented while one runs has no effect of any kind: not on its own (R206), and not on the step, which is
the same for any two settings of the command ports. -/
def Obligations.CommandsAreHeldOffWhileBusy : Prop :=
  (∀ s : State, s.busy = true →
    exec .init s = .next s ∧ exec .getConfig s = .next s ∧ (∀ n, exec (.setConfig n) s = .next s) ∧
    exec .getReport s = .next s) ∧
  (∀ (s : State) (p q : Ports) (rest : List Ports), s.busy = true → p.rst = q.rst →
    step { s with inputs := p :: rest } = step { s with inputs := q :: rest })

/-- FIN ends the command with select inactive and stops where select is active (R205). -/
def Obligations.FinEndsTheCommand : Prop :=
  ∀ s : State,
    (s.cs = false →
      exec .fin0 s = .next { s with busy := false, done := true } ∧
      exec .fin1 s = .next { s with session := .ready, busy := false, done := true }) ∧
    (s.cs = true → exec .fin0 s = .fault .finSelected ∧ exec .fin1 s = .fault .finSelected)

/-- The reserved opcode stops in every state with ILLEGAL_WORD, whatever its low bits (R102, R224). -/
def Obligations.ReservedOpcodeStops : Prop :=
  ∀ (low : BitVec 12) (s : State), exec (.reservedOp0 low) s = .fault .illegalWord

/-! ## Bus frames (30_encoding.md R93 to R95) -/

/-- The two-byte frames from idle select on a configured bus: the bytes and waits of R93 and R94. UPC stays and the
read keeps its answer in RDVAL by the model's choice (notes/assumptions/8.md). -/
def Obligations.SingleFramesRun : Prop :=
  ∀ (a : Addr7) (s : State), s.csOe = true → s.busCfg = true → s.cs = false →
    (∀ v, exec (.singleWrite a v) s =
      .next { s with answers := s.answers.drop 2, draws := s.draws + 2,
                     trace := s.trace ++ writeTrace a v (s.answer 0) (s.answer 1) }) ∧
    exec (.singleRead a) s =
      .next { s with rdval := s.answer 1, answers := s.answers.drop 2, draws := s.draws + 2,
                     trace := s.trace ++ readTrace a (s.answer 0) (s.answer 1) }

/-- The burst frames from idle select on a configured bus: the bytes and waits of R95. The registers a frame leaves as a
whole are the model's (notes/assumptions/8.md): that UPC stays is its choice, and that BURST_WRITE leaves
FW_IDX = FW_LEN and BURST_READ the four latches it deduces from R165 and R180. -/
def Obligations.BurstFramesRun : Prop :=
  ∀ s : State, s.csOe = true → s.busCfg = true → s.cs = false →
    exec .burstWrite s =
      .next { s with fwIdx := Config.fwLen, answers := s.answers.drop (1 + Config.fwLen),
                     draws := s.draws + (1 + Config.fwLen), trace := s.trace ++ burstTrace s.answer } ∧
    exec .burstRead s =
      .next { s with dxl := s.answer 3, dxh := s.answer 4, dyl := s.answer 5, dyh := s.answer 6,
                     answers := s.answers.drop 7, draws := s.draws + 7, trace := s.trace ++ reportTrace s.answer }

/-- A pseudo-operation stops, before any event, where select may not be asserted (R122, R142, R143); that a frame takes
the machine checks of its micro-operations, and so stops there too, is the model's deduction
(notes/assumptions/8.md). -/
def Obligations.AccessesStopWhereSelectMayNotBeAsserted : Prop :=
  ∀ (s : State) (f : Fault), exec .csa s = .fault f →
    (∀ a src, exec (.wr a src) s = .fault f) ∧ (∀ a dst, exec (.rd a dst) s = .fault f) ∧
    (∀ a v, exec (.singleWrite a v) s = .fault f) ∧ (∀ a, exec (.singleRead a) s = .fault f) ∧
    exec .burstWrite s = .fault f ∧ exec .burstRead s = .fault f

/-! ## Rules over all operations -/

/-- An operation leaves every register unchanged but those whose "written by" entry names it (R21, R22, R24 to R27,
R32), and it leaves the ports, the micro-program and the slot alone. The columns have no entry for a frame: the
registers it may change are the model's deduction (notes/assumptions/8.md). -/
def Obligations.RegistersHaveOnlyTheirWriters : Prop :=
  ∀ (i : Instr) (s t : State), exec i s = .next t →
    (∀ r, writers i r = false → t.reg r = s.reg r) ∧
    t.inputs = s.inputs ∧ t.slot = s.slot ∧ ∀ a, t.urom.read a = s.urom.read a

/-- The micro-program counter (R24, R204): every micro-operation but FWBR when it branches, FWNX and FIN goes to the
next word, FWNX and a branching FWBR to their target, and FIN nowhere. R24 gives the word after 0xFF no meaning: that
UPC wraps there to 0x00 is the model's choice (notes/assumptions/13.md). -/
def Obligations.ProgramCounterRules : Prop :=
  ∀ (w : Half) (i : Instr) (s t : State), decodeW16 w = .ok i → exec i s = .next t →
    (∀ x, i = .fwnx x → t.upc = x) ∧
    (∀ x, i = .fwbr x → t.upc = if s.fwIdx = Config.fwLen then x else s.upc + 1#8) ∧
    (i = .fin0 ∨ i = .fin1 → t.upc = s.upc) ∧
    ((∀ x, i ≠ .fwnx x) → (∀ x, i ≠ .fwbr x) → i ≠ .fin0 → i ≠ .fin1 → t.upc = s.upc + 1#8)

/-- A micro-operation records at most one event, and only TXI, TXF, TXR and TXM exchange a byte with the sensor, one
each, recorded with its answer, which is consumed (R5, R11, R71, R124). -/
def Obligations.OneEventPerMicroOperation : Prop :=
  ∀ (w : Half) (i : Instr) (s t : State), decodeW16 w = .ok i → exec i s = .next t →
    (t.trace = s.trace ∨ ∃ e, t.trace = s.trace ++ [e]) ∧
    (isTransfer i = true →
      ∃ tx, t.trace = s.trace ++ [.xfer tx (s.answer 0)] ∧ t.draws = s.draws + 1 ∧ t.answers = s.answers.drop 1) ∧
    (isTransfer i = false → t.draws = s.draws ∧ t.answers = s.answers ∧ ∀ tx rx, t.trace ≠ s.trace ++ [.xfer tx rx])

/-- ERR is sticky and blocks nothing (R223): no operation clears it, only a reset edge does, and with ERR = 1 every
operation does what it does with ERR = 0. -/
def Obligations.ErrIsStickyAndBlocksNothing : Prop :=
  (∀ (i : Instr) (s t : State), exec i s = .next t → s.err = true → t.err = true) ∧
  (∀ s t : State, step s = .next t → s.err = true → (portsNow s).rst = false → t.err = true) ∧
  (∀ (i : Instr) (s : State),
    (∀ t, exec i { s with err := false } = .next t → exec i { s with err := true } = .next { t with err := true }) ∧
    (∀ f, exec i { s with err := false } = .fault f → exec i { s with err := true } = .fault f))

/-- The session (R28): its three codes; without a reset its only transitions are UNINIT to INITIALIZING, by the
acceptance of INIT, and INITIALIZING to READY, by the FIN 1 that ends the routine, and both happen there; a reset edge
gives UNINIT; INITIALIZING implies BUSY. -/
def Obligations.SessionLifecycle : Prop :=
  (Session.code .uninit = 0#2 ∧ Session.code .initializing = 1#2 ∧ Session.code .ready = 2#2) ∧
  ∀ s t : State, Inv s → step s = .next t →
    ((portsNow s).rst = true → t.session = .uninit) ∧
    ((portsNow s).rst = false →
      (t.session = s.session ∨
        (s.session = .uninit ∧ t.session = .initializing ∧ s.busy = false ∧ t.busy = true ∧ t.upc = 0x00#8 ∧
          (portsNow s).cmdValid = true ∧ (portsNow s).cmdOp = 0b00#2) ∨
        (s.session = .initializing ∧ t.session = .ready ∧ s.busy = true ∧ t.busy = false ∧ s.upc = 0x54#8)) ∧
      (s.session = .uninit → (portsNow s).cmdValid = true → (portsNow s).cmdOp = 0b00#2 →
        t.session = .initializing) ∧
      (s.session = .initializing → s.upc = 0x54#8 → t.session = .ready)) ∧
    (s.session = .initializing → s.busy = true)

/-- INIT is accepted at most once between two resets (R222): no step without reset leads back to UNINIT. -/
def Obligations.NoWayBackToUninit : Prop :=
  ∀ s t : State, step s = .next t → (portsNow s).rst = false → s.session ≠ .uninit → t.session ≠ .uninit

/-- When each machine check arises (R224): a micro-operation stops only for the cause the table gives it. -/
def Obligations.MachineCheckCauses : Prop :=
  ∀ (w : Half) (i : Instr) (s : State) (f : Fault), decodeW16 w = .ok i → exec i s = .fault f →
    (f = .illegalWord ∧ ∃ low, i = .reservedOp0 low) ∨
    (f = .unconfigured ∧ i = .csa ∧ (s.csOe = false ∨ s.busCfg = false)) ∨
    (f = .nestedBegin ∧ i = .csa ∧ s.cs = true) ∨
    (f = .unselectedTransfer ∧ isTransfer i = true ∧ (s.cs = false ∨ s.busCfg = false)) ∨
    (f = .fwRange ∧ i = .txf ∧ Config.fwLen ≤ s.fwIdx) ∨
    (f = .finSelected ∧ (i = .fin0 ∨ i = .fin1) ∧ s.cs = true)

/-! ## Reset -/

/-- Reset leaves every register and every pin at the values of R34, and the block idles there until a command is
presented. -/
def Obligations.ResetValues : Prop :=
  (∀ r : Reg, State.reset.reg r = 0) ∧ State.reset.session = .uninit ∧
  pins State.reset =
    { cmdReady := true, busy := false, done := false, err := false, session := 0#2, x := 0#16, y := 0#16,
      cpi := 0#16, ncs := !Config.csActive, ncsOe := false, sck := true, mosi := false, spiOe := false, fwAddr := 0 } ∧
  ∀ p : Ports, p.rst = false → p.cmdValid = false →
    stepWith p State.reset = .next State.reset ∧ tick p State.reset = .next State.reset

/-- An edge with `rst = 1` resets every register, whatever else the edge would have done, at either level; the trace
restarts empty and the block is then idle, in UNINIT, ready for a command (R250, R252). -/
def Obligations.ResetEdgeWinsAtOnce : Prop :=
  (∀ s : State, (portsNow s).rst = true → ∃ t, step s = .next t ∧ (∀ r, t.reg r = State.reset.reg r) ∧
    t.session = .uninit ∧ t.trace = [] ∧ (pins t).cmdReady = true ∧ t.inputs = s.inputs.tail) ∧
  (∀ (p : Ports) (s : State), p.rst = true → ∃ t, tick p s = .next t ∧ (∀ r, t.reg r = State.reset.reg r) ∧
    t.session = .uninit ∧ t.trace = [])

/-! ## Invariants -/

/-- Reset meets the invariant, with an empty and disciplined trace. -/
def Obligations.ResetMeetsInvariant : Prop := Inv State.reset ∧ Disciplined State.reset

/-- From every state that meets the invariant a step goes on, and to a state that meets it: no machine check is
reachable (R35, R224). -/
def Obligations.StepKeepsInvariantAndNeverStops : Prop := ∀ s : State, Inv s → ∃ t, step s = .next t ∧ Inv t

/-- A clock edge does so too (R35, R224, R270). -/
def Obligations.TickKeepsInvariantAndNeverStops : Prop :=
  ∀ (p : Ports) (s : State), Inv s → ∃ t, tick p s = .next t ∧ Inv t

/-- The invariants (a) to (g) of R35 in every state reachable from reset, whatever the host presents and the sensor
answers. -/
def Obligations.ReachableStatesMeetR35 : Prop :=
  ∀ s : State, Reachable s →
    (s.busy = false → s.cs = false) ∧
    (s.cs = true → s.csOe = true ∧ s.busCfg = true) ∧
    (s.session = .uninit → s.busCfg = false ∧ s.csOe = false ∧ s.cs = false ∧ s.busy = false) ∧
    (s.session = .ready → s.busCfg = true ∧ s.csOe = true) ∧
    (s.done = true → s.busy = false) ∧
    s.session.code ≠ 3#2 ∧
    (s.busy = true → s.upc.toNat ≤ 0x70)

/-- The select discipline of the trace since reset is kept by every step (R261, R31): select is never asserted twice,
every transfer lies inside an assertion, and the first byte of each is a command byte of the table of R31. -/
def Obligations.StepKeepsSelectDiscipline : Prop :=
  ∀ s t : State, Inv s → Disciplined s → step s = .next t → Disciplined t

/-- Every running command completes, after at most as many steps as INIT has, if no reset comes in between (R12, R140,
R165). -/
def Obligations.EveryCommandCompletes : Prop :=
  ∀ s : State, Inv s → s.busy = true → quiet (82 + 4 * Config.fwLen) s →
    ∃ n t, n ≤ 82 + 4 * Config.fwLen ∧ runSteps n s = .next t ∧ t.busy = false ∧ t.done = true

/-- Nothing the sensor answers steers the sequencer (R204, R220): from two states that differ only in answers and what
was made of them, a step goes on or stops alike, and the next states again differ only so. -/
def Obligations.SensorCannotSteer : Prop :=
  ∀ s u : State, SameControl s u →
    (∀ t, step s = .next t → ∃ v, step u = .next v ∧ SameControl t v) ∧
    (∀ f, step s = .fault f → step u = .fault f) ∧ (∀ r, step s = .refused r → step u = .refused r)

/-! ## Tick level (70_reset_and_hazards.md) -/

/-- The time base (R7): a wait of d µs lasts the least number of ticks that is at least d µs long, one or more for
d ≥ 1, and these are the durations of the two waits; with the examples of R7. -/
def Obligations.WaitsNeverFallShort : Prop :=
  (∀ d, d * Config.clkHz ≤ ticksUs d * 1000000) ∧
  (∀ d k, d * Config.clkHz ≤ k * 1000000 → ticksUs d ≤ k) ∧ (∀ d, 1 ≤ d → 1 ≤ ticksUs d) ∧
  (∀ n : BitVec 12, duration (.waitu n) = ticksUs n.toNat ∧ duration (.waitm n) = ticksUs (1000 * n.toNat)) ∧
  (Config.clkHz = 1000000 → ticksUs 20 = 20) ∧ (Config.clkHz = 16000000 → ticksUs 15 = 240) ∧
  (Config.clkHz = 1500000 → ticksUs 1 = 2 ∧ ticksUs 19 = 29)

/-- The tick level refines the event level (R270, R271, R273). From the first tick of a micro-operation, as many edges
without reset as its duration do what its event-level rule does at once, whatever the command ports carry; the received
byte of a transfer is then in the shifter. The duration must fit TPH, as those of the micro-program do (R26); that the
reserved opcode, which R271 gives no duration, stops at its first edge is the model's choice (notes/assumptions/17.md).
An edge of an idle block consumes a presented command at that one edge, with the acceptance or rejection of the event
level, and changes nothing where none is presented. -/
def Obligations.TicksRefineTheStep : Prop :=
  (∀ (s : State) (i : Instr) (ps : List Ports), s.busy = true → s.tph = 0 → fetch s = .ok i →
    duration i ≤ 2 ^ Config.wcntW → ps.length = duration i → (∀ p ∈ ps, p.rst = false) →
    tickRun ps s =
      andThen (exec i s) fun t =>
        .next { t with tph := 0, rxsh := if isTransfer i then s.answer 0 else s.rxsh }) ∧
  (∀ (s : State) (p : Ports), s.busy = false → p.rst = false →
    (p.cmdValid = true → tick p s = exec (decodeCommand p.cmdOp p.cmdCpi) s) ∧
    (p.cmdValid = false → tick p s = .next s))

/-- The waveform of a transfer, and the idle levels (R64, R125 to R129, R272): in bit `j` of a transfer, `sck` is 0 for
the first SCK_HALF ticks and 1 for the rest, and `mosi` carries bit `7 − j` of the immediate byte, of the image byte at
FW_IDX, of RAW, or of RDVAL under the mask, which is also the byte of the XFER that executing the word records; outside
transfers `sck` is 1 and `mosi` 0. The transfers are the legal words with OP from 0x5 to 0x8; nothing is stated of the
pins at an illegal one (notes/assumptions/28.md). -/
def Obligations.TransferWaveform : Prop :=
  (∀ (w : Half) (i : Instr), decodeW16 w = .ok i →
    (isTransfer i = true ↔ 5 ≤ w.toNat / 4096 ∧ w.toNat / 4096 ≤ 8)) ∧
  ∀ (s : State),
    (∀ i j k, s.busy = true → fetch s = .ok i → isTransfer i = true → j < 8 → k < 2 * Config.sckHalf →
      s.tph = 2 * j * Config.sckHalf + k →
      (pins s).sck = decide (Config.sckHalf ≤ k) ∧
      (∀ dst imm, i = .txi dst imm → (pins s).mosi = imm.getLsbD (7 - j)) ∧
      (i = .txf → (pins s).mosi = (Config.fw s.fwIdx).getLsbD (7 - j)) ∧
      (i = .txr → (pins s).mosi = s.raw.getLsbD (7 - j)) ∧
      (∀ mask, i = .txm mask → (pins s).mosi = (s.rdval &&& mask).getLsbD (7 - j)) ∧
      ∀ t, exec i s = .next t →
        ∃ tx, t.trace = s.trace ++ [.xfer tx (s.answer 0)] ∧ (pins s).mosi = tx.getLsbD (7 - j)) ∧
    (s.busy = false → (pins s).sck = true ∧ (pins s).mosi = false) ∧
    (∀ i, fetch s = .ok i → isTransfer i = false → (pins s).sck = true ∧ (pins s).mosi = false)

/-- The latencies of R274: a command admitted at an idle edge is accepted at that edge, with exactly the writes of R201;
from there BUSY is 1 for exactly the ticks of the formula, and at the edge that ends the last of them DONE is set, if no
reset comes in between; with the examples of R274. -/
def Obligations.CommandLatency : Prop :=
  (∀ (s : State) (op : BitVec 2) (n : Half) (ps : List Ports), Inv s → s.busy = false →
    admitted op s.session = true → ps.length = latency op → (∀ p ∈ ps, p.rst = false) →
    let u : State :=
      { s with busy := true, done := false, upc := entryAddress op, tph := 0,
               session := if op = 0b00#2 then .initializing else s.session,
               arg := if op = 0b10#2 then n else s.arg }
    tick { rst := false, cmdValid := true, cmdOp := op, cmdCpi := n } s = .next u ∧
      (∀ k, k < latency op → ∃ v, tickRun (ps.take k) u = .next v ∧ v.busy = true) ∧
      ∃ v, tickRun ps u = .next v ∧ v.busy = false ∧ v.done = true) ∧
  (Config.clkHz = 1000000 → Config.sckHalf = 1 → Config.fwLen = 3 →
    latency 0b11#2 = 116 ∧ latency 0b01#2 = 56 ∧ latency 0b10#2 = 100156 ∧ latency 0b00#2 = 72234) ∧
  (Config.clkHz = 16000000 → Config.sckHalf = 4 → Config.fwLen = 3 →
    latency 0b11#2 = 452 ∧ latency 0b01#2 = 452 ∧ latency 0b10#2 = 1602052 ∧ latency 0b00#2 = 1150182)

/-- The pins that show a register, in every state and so in every tick (R30, R272): `ncs` has the level CS_ACTIVE exactly
while select is asserted; the rest are their registers, and `cmd_ready` is the complement of BUSY. -/
def Obligations.PinsShowTheRegisters : Prop :=
  ∀ s : State,
    (s.cs = true → (pins s).ncs = Config.csActive) ∧ (s.cs = false → (pins s).ncs = !Config.csActive) ∧
    (pins s).ncsOe = s.csOe ∧ (pins s).spiOe = s.busCfg ∧ (pins s).cmdReady = !s.busy ∧ (pins s).busy = s.busy ∧
    (pins s).done = s.done ∧ (pins s).err = s.err ∧ (pins s).session = s.session.code ∧ (pins s).x = s.x ∧
    (pins s).y = s.y ∧ (pins s).cpi = s.cpi ∧ (pins s).fwAddr = s.fwIdx

/-! ## A state no run reaches -/

/-- In a state with SESSION = INITIALIZING and BUSY = 0, which R28 rules out, the model consumes a presented command and
rejects it: its deduction, since R222 admits none there (notes/assumptions/14.md). -/
def Obligations.InitializingRejectsWhereIdle : Prop :=
  ∀ s : State, s.busy = false → s.session = .initializing →
    exec .init s = .next { s with err := true } ∧ exec .getConfig s = .next { s with err := true } ∧
    (∀ n, exec (.setConfig n) s = .next { s with err := true }) ∧ exec .getReport s = .next { s with err := true }
end

