-- ==== Sys2Proof/Laws/Decode.lean ====
section
/-! SUPPORT. The fields of an assembled word, the codes of the latches and the command bytes. -/

namespace Sys2Proof

theorem getLsbD_word (op a : BitVec 4) (b : Byte) (i : Nat) :
    (word op a b).getLsbD i =
      if i < 8 then b.getLsbD i else if i < 12 then a.getLsbD (i - 8) else op.getLsbD (i - 12) := by
  refine (BitVec.getLsbD_append (x := op ++ a) (y := b) (i := i)).trans ?_
  by_cases h : i < 8
  · simp [h]
  · rw [if_neg (by simpa using h), if_neg h, BitVec.getLsbD_append]
    by_cases h2 : i < 12
    · simp [h2, show i - 8 < 4 by omega]
    · simp [h2, show ¬ i - 8 < 4 by omega, Nat.sub_sub]

theorem getLsbD_wordN (op : BitVec 4) (n : BitVec 12) (i : Nat) :
    (wordN op n).getLsbD i = if i < 12 then n.getLsbD i else op.getLsbD (i - 12) := by
  refine (BitVec.getLsbD_append (x := op) (y := n) (i := i)).trans ?_
  by_cases h : i < 12 <;> simp [h]

@[simp] theorem opField_word (op a : BitVec 4) (b : Byte) : opField (word op a b) = op := by
  apply BitVec.eq_of_getLsbD_eq
  intro i hi
  simp [opField, getLsbD_word, hi, show ¬ 12 + i < 8 by omega]

@[simp] theorem aField_word (op a : BitVec 4) (b : Byte) : aField (word op a b) = a := by
  apply BitVec.eq_of_getLsbD_eq
  intro i hi
  simp [aField, getLsbD_word, hi, show 8 + i < 12 by omega]

@[simp] theorem bField_word (op a : BitVec 4) (b : Byte) : bField (word op a b) = b := by
  apply BitVec.eq_of_getLsbD_eq
  intro i hi
  simp [bField, getLsbD_word, hi]

@[simp] theorem opField_wordN (op : BitVec 4) (n : BitVec 12) : opField (wordN op n) = op := by
  apply BitVec.eq_of_getLsbD_eq
  intro i hi
  simp [opField, getLsbD_wordN, hi]

@[simp] theorem nField_wordN (op : BitVec 4) (n : BitVec 12) : nField (wordN op n) = n := by
  apply BitVec.eq_of_getLsbD_eq
  intro i hi
  simp [nField, getLsbD_wordN, hi]

/-- The operand bits of a word without operands are 0. -/
@[simp] theorem nField_bare (op : BitVec 4) : nField (word op 0#4 0#8) = 0#12 := by
  revert op; decide

@[simp] theorem ofCode_code (d : Dst) : Dst.ofCode d.code = some d := by cases d <;> rfl

@[simp] theorem writeFlag_writeCommand (a : Addr7) : writeFlag (writeCommand a) = true := by revert a; decide
@[simp] theorem writeFlag_readCommand (a : Addr7) : writeFlag (readCommand a) = false := by revert a; decide
@[simp] theorem addressOf_writeCommand (a : Addr7) : addressOf (writeCommand a) = a := by revert a; decide
@[simp] theorem addressOf_readCommand (a : Addr7) : addressOf (readCommand a) = a := by revert a; decide

/-- The source's form of a write command byte, `0x80 | a` (R92). -/
theorem writeCommand_eq (a : Addr7) : writeCommand a = 0x80#8 ||| a.setWidth 8 := by revert a; decide

/-- A read command byte is the address itself (R92). -/
theorem readCommand_eq (a : Addr7) : readCommand a = a.setWidth 8 := by revert a; decide

theorem readCommand_ne_writeCommand (a b : Addr7) : readCommand a ≠ writeCommand b := by
  intro h
  simpa using congrArg writeFlag h

theorem writeCommand_inj {a b : Addr7} (h : writeCommand a = writeCommand b) : a = b := by
  simpa using congrArg addressOf h

end Sys2Proof
end

