-- ==== Sys2Proof/Laws/State.lean ====
section
/-! SUPPORT. Each shared update, field by field: what it puts in a field and that it leaves the others. -/

namespace Sys2Proof.Machine

/-! ## `emit` -/

@[simp] theorem emit_session (e : Event) (s : State) : (emit e s).session = s.session := rfl
@[simp] theorem emit_busy (e : Event) (s : State) : (emit e s).busy = s.busy := rfl
@[simp] theorem emit_done (e : Event) (s : State) : (emit e s).done = s.done := rfl
@[simp] theorem emit_err (e : Event) (s : State) : (emit e s).err = s.err := rfl
@[simp] theorem emit_x (e : Event) (s : State) : (emit e s).x = s.x := rfl
@[simp] theorem emit_y (e : Event) (s : State) : (emit e s).y = s.y := rfl
@[simp] theorem emit_cpi (e : Event) (s : State) : (emit e s).cpi = s.cpi := rfl
@[simp] theorem emit_arg (e : Event) (s : State) : (emit e s).arg = s.arg := rfl
@[simp] theorem emit_raw (e : Event) (s : State) : (emit e s).raw = s.raw := rfl
@[simp] theorem emit_rdval (e : Event) (s : State) : (emit e s).rdval = s.rdval := rfl
@[simp] theorem emit_dxl (e : Event) (s : State) : (emit e s).dxl = s.dxl := rfl
@[simp] theorem emit_dxh (e : Event) (s : State) : (emit e s).dxh = s.dxh := rfl
@[simp] theorem emit_dyl (e : Event) (s : State) : (emit e s).dyl = s.dyl := rfl
@[simp] theorem emit_dyh (e : Event) (s : State) : (emit e s).dyh = s.dyh := rfl
@[simp] theorem emit_upc (e : Event) (s : State) : (emit e s).upc = s.upc := rfl
@[simp] theorem emit_fwIdx (e : Event) (s : State) : (emit e s).fwIdx = s.fwIdx := rfl
@[simp] theorem emit_tph (e : Event) (s : State) : (emit e s).tph = s.tph := rfl
@[simp] theorem emit_busCfg (e : Event) (s : State) : (emit e s).busCfg = s.busCfg := rfl
@[simp] theorem emit_csOe (e : Event) (s : State) : (emit e s).csOe = s.csOe := rfl
@[simp] theorem emit_cs (e : Event) (s : State) : (emit e s).cs = s.cs := rfl
@[simp] theorem emit_rxsh (e : Event) (s : State) : (emit e s).rxsh = s.rxsh := rfl
@[simp] theorem emit_trace (e : Event) (s : State) : (emit e s).trace = s.trace ++ [e] := rfl
@[simp] theorem emit_urom (e : Event) (s : State) : (emit e s).urom = s.urom := rfl
@[simp] theorem emit_inputs (e : Event) (s : State) : (emit e s).inputs = s.inputs := rfl
@[simp] theorem emit_answers (e : Event) (s : State) : (emit e s).answers = s.answers := rfl
@[simp] theorem emit_draws (e : Event) (s : State) : (emit e s).draws = s.draws := rfl
@[simp] theorem emit_slot (e : Event) (s : State) : (emit e s).slot = s.slot := rfl

/-! ## `advance` -/

@[simp] theorem advance_session (s : State) : (advance s).session = s.session := rfl
@[simp] theorem advance_busy (s : State) : (advance s).busy = s.busy := rfl
@[simp] theorem advance_done (s : State) : (advance s).done = s.done := rfl
@[simp] theorem advance_err (s : State) : (advance s).err = s.err := rfl
@[simp] theorem advance_x (s : State) : (advance s).x = s.x := rfl
@[simp] theorem advance_y (s : State) : (advance s).y = s.y := rfl
@[simp] theorem advance_cpi (s : State) : (advance s).cpi = s.cpi := rfl
@[simp] theorem advance_arg (s : State) : (advance s).arg = s.arg := rfl
@[simp] theorem advance_raw (s : State) : (advance s).raw = s.raw := rfl
@[simp] theorem advance_rdval (s : State) : (advance s).rdval = s.rdval := rfl
@[simp] theorem advance_dxl (s : State) : (advance s).dxl = s.dxl := rfl
@[simp] theorem advance_dxh (s : State) : (advance s).dxh = s.dxh := rfl
@[simp] theorem advance_dyl (s : State) : (advance s).dyl = s.dyl := rfl
@[simp] theorem advance_dyh (s : State) : (advance s).dyh = s.dyh := rfl
@[simp] theorem advance_upc (s : State) : (advance s).upc = s.upc + 1#8 := rfl
@[simp] theorem advance_fwIdx (s : State) : (advance s).fwIdx = s.fwIdx := rfl
@[simp] theorem advance_tph (s : State) : (advance s).tph = s.tph := rfl
@[simp] theorem advance_busCfg (s : State) : (advance s).busCfg = s.busCfg := rfl
@[simp] theorem advance_csOe (s : State) : (advance s).csOe = s.csOe := rfl
@[simp] theorem advance_cs (s : State) : (advance s).cs = s.cs := rfl
@[simp] theorem advance_rxsh (s : State) : (advance s).rxsh = s.rxsh := rfl
@[simp] theorem advance_trace (s : State) : (advance s).trace = s.trace := rfl
@[simp] theorem advance_urom (s : State) : (advance s).urom = s.urom := rfl
@[simp] theorem advance_inputs (s : State) : (advance s).inputs = s.inputs := rfl
@[simp] theorem advance_answers (s : State) : (advance s).answers = s.answers := rfl
@[simp] theorem advance_draws (s : State) : (advance s).draws = s.draws := rfl
@[simp] theorem advance_slot (s : State) : (advance s).slot = s.slot := rfl

/-! ## `jump` -/

@[simp] theorem jump_session (t : Byte) (s : State) : (jump t s).session = s.session := rfl
@[simp] theorem jump_busy (t : Byte) (s : State) : (jump t s).busy = s.busy := rfl
@[simp] theorem jump_done (t : Byte) (s : State) : (jump t s).done = s.done := rfl
@[simp] theorem jump_err (t : Byte) (s : State) : (jump t s).err = s.err := rfl
@[simp] theorem jump_x (t : Byte) (s : State) : (jump t s).x = s.x := rfl
@[simp] theorem jump_y (t : Byte) (s : State) : (jump t s).y = s.y := rfl
@[simp] theorem jump_cpi (t : Byte) (s : State) : (jump t s).cpi = s.cpi := rfl
@[simp] theorem jump_arg (t : Byte) (s : State) : (jump t s).arg = s.arg := rfl
@[simp] theorem jump_raw (t : Byte) (s : State) : (jump t s).raw = s.raw := rfl
@[simp] theorem jump_rdval (t : Byte) (s : State) : (jump t s).rdval = s.rdval := rfl
@[simp] theorem jump_dxl (t : Byte) (s : State) : (jump t s).dxl = s.dxl := rfl
@[simp] theorem jump_dxh (t : Byte) (s : State) : (jump t s).dxh = s.dxh := rfl
@[simp] theorem jump_dyl (t : Byte) (s : State) : (jump t s).dyl = s.dyl := rfl
@[simp] theorem jump_dyh (t : Byte) (s : State) : (jump t s).dyh = s.dyh := rfl
@[simp] theorem jump_upc (t : Byte) (s : State) : (jump t s).upc = t := rfl
@[simp] theorem jump_fwIdx (t : Byte) (s : State) : (jump t s).fwIdx = s.fwIdx := rfl
@[simp] theorem jump_tph (t : Byte) (s : State) : (jump t s).tph = s.tph := rfl
@[simp] theorem jump_busCfg (t : Byte) (s : State) : (jump t s).busCfg = s.busCfg := rfl
@[simp] theorem jump_csOe (t : Byte) (s : State) : (jump t s).csOe = s.csOe := rfl
@[simp] theorem jump_cs (t : Byte) (s : State) : (jump t s).cs = s.cs := rfl
@[simp] theorem jump_rxsh (t : Byte) (s : State) : (jump t s).rxsh = s.rxsh := rfl
@[simp] theorem jump_trace (t : Byte) (s : State) : (jump t s).trace = s.trace := rfl
@[simp] theorem jump_urom (t : Byte) (s : State) : (jump t s).urom = s.urom := rfl
@[simp] theorem jump_inputs (t : Byte) (s : State) : (jump t s).inputs = s.inputs := rfl
@[simp] theorem jump_answers (t : Byte) (s : State) : (jump t s).answers = s.answers := rfl
@[simp] theorem jump_draws (t : Byte) (s : State) : (jump t s).draws = s.draws := rfl
@[simp] theorem jump_slot (t : Byte) (s : State) : (jump t s).slot = s.slot := rfl

/-! ## `consume` -/

@[simp] theorem consume_session (k : Nat) (s : State) : (s.consume k).session = s.session := rfl
@[simp] theorem consume_busy (k : Nat) (s : State) : (s.consume k).busy = s.busy := rfl
@[simp] theorem consume_done (k : Nat) (s : State) : (s.consume k).done = s.done := rfl
@[simp] theorem consume_err (k : Nat) (s : State) : (s.consume k).err = s.err := rfl
@[simp] theorem consume_x (k : Nat) (s : State) : (s.consume k).x = s.x := rfl
@[simp] theorem consume_y (k : Nat) (s : State) : (s.consume k).y = s.y := rfl
@[simp] theorem consume_cpi (k : Nat) (s : State) : (s.consume k).cpi = s.cpi := rfl
@[simp] theorem consume_arg (k : Nat) (s : State) : (s.consume k).arg = s.arg := rfl
@[simp] theorem consume_raw (k : Nat) (s : State) : (s.consume k).raw = s.raw := rfl
@[simp] theorem consume_rdval (k : Nat) (s : State) : (s.consume k).rdval = s.rdval := rfl
@[simp] theorem consume_dxl (k : Nat) (s : State) : (s.consume k).dxl = s.dxl := rfl
@[simp] theorem consume_dxh (k : Nat) (s : State) : (s.consume k).dxh = s.dxh := rfl
@[simp] theorem consume_dyl (k : Nat) (s : State) : (s.consume k).dyl = s.dyl := rfl
@[simp] theorem consume_dyh (k : Nat) (s : State) : (s.consume k).dyh = s.dyh := rfl
@[simp] theorem consume_upc (k : Nat) (s : State) : (s.consume k).upc = s.upc := rfl
@[simp] theorem consume_fwIdx (k : Nat) (s : State) : (s.consume k).fwIdx = s.fwIdx := rfl
@[simp] theorem consume_tph (k : Nat) (s : State) : (s.consume k).tph = s.tph := rfl
@[simp] theorem consume_busCfg (k : Nat) (s : State) : (s.consume k).busCfg = s.busCfg := rfl
@[simp] theorem consume_csOe (k : Nat) (s : State) : (s.consume k).csOe = s.csOe := rfl
@[simp] theorem consume_cs (k : Nat) (s : State) : (s.consume k).cs = s.cs := rfl
@[simp] theorem consume_rxsh (k : Nat) (s : State) : (s.consume k).rxsh = s.rxsh := rfl
@[simp] theorem consume_trace (k : Nat) (s : State) : (s.consume k).trace = s.trace := rfl
@[simp] theorem consume_urom (k : Nat) (s : State) : (s.consume k).urom = s.urom := rfl
@[simp] theorem consume_inputs (k : Nat) (s : State) : (s.consume k).inputs = s.inputs := rfl
@[simp] theorem consume_answers (k : Nat) (s : State) : (s.consume k).answers = s.answers.drop k := rfl
@[simp] theorem consume_draws (k : Nat) (s : State) : (s.consume k).draws = s.draws + k := rfl
@[simp] theorem consume_slot (k : Nat) (s : State) : (s.consume k).slot = s.slot := rfl

/-! ## `nextIndex` -/

@[simp] theorem nextIndex_session (s : State) : (nextIndex s).session = s.session := rfl
@[simp] theorem nextIndex_busy (s : State) : (nextIndex s).busy = s.busy := rfl
@[simp] theorem nextIndex_done (s : State) : (nextIndex s).done = s.done := rfl
@[simp] theorem nextIndex_err (s : State) : (nextIndex s).err = s.err := rfl
@[simp] theorem nextIndex_x (s : State) : (nextIndex s).x = s.x := rfl
@[simp] theorem nextIndex_y (s : State) : (nextIndex s).y = s.y := rfl
@[simp] theorem nextIndex_cpi (s : State) : (nextIndex s).cpi = s.cpi := rfl
@[simp] theorem nextIndex_arg (s : State) : (nextIndex s).arg = s.arg := rfl
@[simp] theorem nextIndex_raw (s : State) : (nextIndex s).raw = s.raw := rfl
@[simp] theorem nextIndex_rdval (s : State) : (nextIndex s).rdval = s.rdval := rfl
@[simp] theorem nextIndex_dxl (s : State) : (nextIndex s).dxl = s.dxl := rfl
@[simp] theorem nextIndex_dxh (s : State) : (nextIndex s).dxh = s.dxh := rfl
@[simp] theorem nextIndex_dyl (s : State) : (nextIndex s).dyl = s.dyl := rfl
@[simp] theorem nextIndex_dyh (s : State) : (nextIndex s).dyh = s.dyh := rfl
@[simp] theorem nextIndex_upc (s : State) : (nextIndex s).upc = s.upc := rfl
@[simp] theorem nextIndex_fwIdx (s : State) : (nextIndex s).fwIdx = (s.fwIdx + 1) % 2 ^ Config.fwAw := rfl
@[simp] theorem nextIndex_tph (s : State) : (nextIndex s).tph = s.tph := rfl
@[simp] theorem nextIndex_busCfg (s : State) : (nextIndex s).busCfg = s.busCfg := rfl
@[simp] theorem nextIndex_csOe (s : State) : (nextIndex s).csOe = s.csOe := rfl
@[simp] theorem nextIndex_cs (s : State) : (nextIndex s).cs = s.cs := rfl
@[simp] theorem nextIndex_rxsh (s : State) : (nextIndex s).rxsh = s.rxsh := rfl
@[simp] theorem nextIndex_trace (s : State) : (nextIndex s).trace = s.trace := rfl
@[simp] theorem nextIndex_urom (s : State) : (nextIndex s).urom = s.urom := rfl
@[simp] theorem nextIndex_inputs (s : State) : (nextIndex s).inputs = s.inputs := rfl
@[simp] theorem nextIndex_answers (s : State) : (nextIndex s).answers = s.answers := rfl
@[simp] theorem nextIndex_draws (s : State) : (nextIndex s).draws = s.draws := rfl
@[simp] theorem nextIndex_slot (s : State) : (nextIndex s).slot = s.slot := rfl

/-! ## `sampled` -/

@[simp] theorem sampled_session (s : State) : (sampled s).session = s.session := rfl
@[simp] theorem sampled_busy (s : State) : (sampled s).busy = s.busy := rfl
@[simp] theorem sampled_done (s : State) : (sampled s).done = s.done := rfl
@[simp] theorem sampled_err (s : State) : (sampled s).err = s.err := rfl
@[simp] theorem sampled_x (s : State) : (sampled s).x = s.x := rfl
@[simp] theorem sampled_y (s : State) : (sampled s).y = s.y := rfl
@[simp] theorem sampled_cpi (s : State) : (sampled s).cpi = s.cpi := rfl
@[simp] theorem sampled_arg (s : State) : (sampled s).arg = s.arg := rfl
@[simp] theorem sampled_raw (s : State) : (sampled s).raw = s.raw := rfl
@[simp] theorem sampled_rdval (s : State) : (sampled s).rdval = s.rdval := rfl
@[simp] theorem sampled_dxl (s : State) : (sampled s).dxl = s.dxl := rfl
@[simp] theorem sampled_dxh (s : State) : (sampled s).dxh = s.dxh := rfl
@[simp] theorem sampled_dyl (s : State) : (sampled s).dyl = s.dyl := rfl
@[simp] theorem sampled_dyh (s : State) : (sampled s).dyh = s.dyh := rfl
@[simp] theorem sampled_upc (s : State) : (sampled s).upc = s.upc := rfl
@[simp] theorem sampled_fwIdx (s : State) : (sampled s).fwIdx = s.fwIdx := rfl
@[simp] theorem sampled_tph (s : State) : (sampled s).tph = s.tph := rfl
@[simp] theorem sampled_busCfg (s : State) : (sampled s).busCfg = s.busCfg := rfl
@[simp] theorem sampled_csOe (s : State) : (sampled s).csOe = s.csOe := rfl
@[simp] theorem sampled_cs (s : State) : (sampled s).cs = s.cs := rfl
@[simp] theorem sampled_rxsh (s : State) : (sampled s).rxsh = s.rxsh := rfl
@[simp] theorem sampled_trace (s : State) : (sampled s).trace = s.trace := rfl
@[simp] theorem sampled_urom (s : State) : (sampled s).urom = s.urom := rfl
@[simp] theorem sampled_inputs (s : State) : (sampled s).inputs = s.inputs.tail := rfl
@[simp] theorem sampled_answers (s : State) : (sampled s).answers = s.answers := rfl
@[simp] theorem sampled_draws (s : State) : (sampled s).draws = s.draws := rfl
@[simp] theorem sampled_slot (s : State) : (sampled s).slot = s.slot := rfl

/-! ## `accept` -/

@[simp] theorem accept_session (op : BitVec 2) (n : Half) (s : State) : (accept op n s).session = if op = 0b00#2 then .initializing else s.session := rfl
@[simp] theorem accept_busy (op : BitVec 2) (n : Half) (s : State) : (accept op n s).busy = true := rfl
@[simp] theorem accept_done (op : BitVec 2) (n : Half) (s : State) : (accept op n s).done = false := rfl
@[simp] theorem accept_err (op : BitVec 2) (n : Half) (s : State) : (accept op n s).err = s.err := rfl
@[simp] theorem accept_x (op : BitVec 2) (n : Half) (s : State) : (accept op n s).x = s.x := rfl
@[simp] theorem accept_y (op : BitVec 2) (n : Half) (s : State) : (accept op n s).y = s.y := rfl
@[simp] theorem accept_cpi (op : BitVec 2) (n : Half) (s : State) : (accept op n s).cpi = s.cpi := rfl
@[simp] theorem accept_arg (op : BitVec 2) (n : Half) (s : State) : (accept op n s).arg = if op = 0b10#2 then n else s.arg := rfl
@[simp] theorem accept_raw (op : BitVec 2) (n : Half) (s : State) : (accept op n s).raw = s.raw := rfl
@[simp] theorem accept_rdval (op : BitVec 2) (n : Half) (s : State) : (accept op n s).rdval = s.rdval := rfl
@[simp] theorem accept_dxl (op : BitVec 2) (n : Half) (s : State) : (accept op n s).dxl = s.dxl := rfl
@[simp] theorem accept_dxh (op : BitVec 2) (n : Half) (s : State) : (accept op n s).dxh = s.dxh := rfl
@[simp] theorem accept_dyl (op : BitVec 2) (n : Half) (s : State) : (accept op n s).dyl = s.dyl := rfl
@[simp] theorem accept_dyh (op : BitVec 2) (n : Half) (s : State) : (accept op n s).dyh = s.dyh := rfl
@[simp] theorem accept_upc (op : BitVec 2) (n : Half) (s : State) : (accept op n s).upc = entryAddress op := rfl
@[simp] theorem accept_fwIdx (op : BitVec 2) (n : Half) (s : State) : (accept op n s).fwIdx = s.fwIdx := rfl
@[simp] theorem accept_tph (op : BitVec 2) (n : Half) (s : State) : (accept op n s).tph = 0 := rfl
@[simp] theorem accept_busCfg (op : BitVec 2) (n : Half) (s : State) : (accept op n s).busCfg = s.busCfg := rfl
@[simp] theorem accept_csOe (op : BitVec 2) (n : Half) (s : State) : (accept op n s).csOe = s.csOe := rfl
@[simp] theorem accept_cs (op : BitVec 2) (n : Half) (s : State) : (accept op n s).cs = s.cs := rfl
@[simp] theorem accept_rxsh (op : BitVec 2) (n : Half) (s : State) : (accept op n s).rxsh = s.rxsh := rfl
@[simp] theorem accept_trace (op : BitVec 2) (n : Half) (s : State) : (accept op n s).trace = s.trace := rfl
@[simp] theorem accept_urom (op : BitVec 2) (n : Half) (s : State) : (accept op n s).urom = s.urom := rfl
@[simp] theorem accept_inputs (op : BitVec 2) (n : Half) (s : State) : (accept op n s).inputs = s.inputs := rfl
@[simp] theorem accept_answers (op : BitVec 2) (n : Half) (s : State) : (accept op n s).answers = s.answers := rfl
@[simp] theorem accept_draws (op : BitVec 2) (n : Half) (s : State) : (accept op n s).draws = s.draws := rfl
@[simp] theorem accept_slot (op : BitVec 2) (n : Half) (s : State) : (accept op n s).slot = s.slot := rfl

/-! ## `latch` -/

@[simp] theorem latch_session (d : Dst) (b : Byte) (s : State) : (latch d b s).session = s.session := by cases d <;> rfl
@[simp] theorem latch_busy (d : Dst) (b : Byte) (s : State) : (latch d b s).busy = s.busy := by cases d <;> rfl
@[simp] theorem latch_done (d : Dst) (b : Byte) (s : State) : (latch d b s).done = s.done := by cases d <;> rfl
@[simp] theorem latch_err (d : Dst) (b : Byte) (s : State) : (latch d b s).err = s.err := by cases d <;> rfl
@[simp] theorem latch_x (d : Dst) (b : Byte) (s : State) : (latch d b s).x = s.x := by cases d <;> rfl
@[simp] theorem latch_y (d : Dst) (b : Byte) (s : State) : (latch d b s).y = s.y := by cases d <;> rfl
@[simp] theorem latch_cpi (d : Dst) (b : Byte) (s : State) : (latch d b s).cpi = s.cpi := by cases d <;> rfl
@[simp] theorem latch_arg (d : Dst) (b : Byte) (s : State) : (latch d b s).arg = s.arg := by cases d <;> rfl
@[simp] theorem latch_raw (d : Dst) (b : Byte) (s : State) : (latch d b s).raw = s.raw := by cases d <;> rfl
@[simp] theorem latch_rdval (d : Dst) (b : Byte) (s : State) :
    (latch d b s).rdval = if d = .rdval then b else s.rdval := by
  cases d <;> rfl
@[simp] theorem latch_dxl (d : Dst) (b : Byte) (s : State) :
    (latch d b s).dxl = if d = .dxl then b else s.dxl := by
  cases d <;> rfl
@[simp] theorem latch_dxh (d : Dst) (b : Byte) (s : State) :
    (latch d b s).dxh = if d = .dxh then b else s.dxh := by
  cases d <;> rfl
@[simp] theorem latch_dyl (d : Dst) (b : Byte) (s : State) :
    (latch d b s).dyl = if d = .dyl then b else s.dyl := by
  cases d <;> rfl
@[simp] theorem latch_dyh (d : Dst) (b : Byte) (s : State) :
    (latch d b s).dyh = if d = .dyh then b else s.dyh := by
  cases d <;> rfl
@[simp] theorem latch_upc (d : Dst) (b : Byte) (s : State) : (latch d b s).upc = s.upc := by cases d <;> rfl
@[simp] theorem latch_fwIdx (d : Dst) (b : Byte) (s : State) : (latch d b s).fwIdx = s.fwIdx := by cases d <;> rfl
@[simp] theorem latch_tph (d : Dst) (b : Byte) (s : State) : (latch d b s).tph = s.tph := by cases d <;> rfl
@[simp] theorem latch_busCfg (d : Dst) (b : Byte) (s : State) : (latch d b s).busCfg = s.busCfg := by cases d <;> rfl
@[simp] theorem latch_csOe (d : Dst) (b : Byte) (s : State) : (latch d b s).csOe = s.csOe := by cases d <;> rfl
@[simp] theorem latch_cs (d : Dst) (b : Byte) (s : State) : (latch d b s).cs = s.cs := by cases d <;> rfl
@[simp] theorem latch_rxsh (d : Dst) (b : Byte) (s : State) : (latch d b s).rxsh = s.rxsh := by cases d <;> rfl
@[simp] theorem latch_trace (d : Dst) (b : Byte) (s : State) : (latch d b s).trace = s.trace := by cases d <;> rfl
@[simp] theorem latch_urom (d : Dst) (b : Byte) (s : State) : (latch d b s).urom = s.urom := by cases d <;> rfl
@[simp] theorem latch_inputs (d : Dst) (b : Byte) (s : State) : (latch d b s).inputs = s.inputs := by cases d <;> rfl
@[simp] theorem latch_answers (d : Dst) (b : Byte) (s : State) : (latch d b s).answers = s.answers := by cases d <;> rfl
@[simp] theorem latch_draws (d : Dst) (b : Byte) (s : State) : (latch d b s).draws = s.draws := by cases d <;> rfl
@[simp] theorem latch_slot (d : Dst) (b : Byte) (s : State) : (latch d b s).slot = s.slot := by cases d <;> rfl

/-! ## `resetEdge` -/

@[simp] theorem resetEdge_session (s : State) : (resetEdge s).session = .uninit := rfl
@[simp] theorem resetEdge_busy (s : State) : (resetEdge s).busy = false := rfl
@[simp] theorem resetEdge_done (s : State) : (resetEdge s).done = false := rfl
@[simp] theorem resetEdge_err (s : State) : (resetEdge s).err = false := rfl
@[simp] theorem resetEdge_x (s : State) : (resetEdge s).x = 0#16 := rfl
@[simp] theorem resetEdge_y (s : State) : (resetEdge s).y = 0#16 := rfl
@[simp] theorem resetEdge_cpi (s : State) : (resetEdge s).cpi = 0#16 := rfl
@[simp] theorem resetEdge_arg (s : State) : (resetEdge s).arg = 0#16 := rfl
@[simp] theorem resetEdge_raw (s : State) : (resetEdge s).raw = 0#8 := rfl
@[simp] theorem resetEdge_rdval (s : State) : (resetEdge s).rdval = 0#8 := rfl
@[simp] theorem resetEdge_dxl (s : State) : (resetEdge s).dxl = 0#8 := rfl
@[simp] theorem resetEdge_dxh (s : State) : (resetEdge s).dxh = 0#8 := rfl
@[simp] theorem resetEdge_dyl (s : State) : (resetEdge s).dyl = 0#8 := rfl
@[simp] theorem resetEdge_dyh (s : State) : (resetEdge s).dyh = 0#8 := rfl
@[simp] theorem resetEdge_upc (s : State) : (resetEdge s).upc = 0#8 := rfl
@[simp] theorem resetEdge_fwIdx (s : State) : (resetEdge s).fwIdx = 0 := rfl
@[simp] theorem resetEdge_tph (s : State) : (resetEdge s).tph = 0 := rfl
@[simp] theorem resetEdge_busCfg (s : State) : (resetEdge s).busCfg = false := rfl
@[simp] theorem resetEdge_csOe (s : State) : (resetEdge s).csOe = false := rfl
@[simp] theorem resetEdge_cs (s : State) : (resetEdge s).cs = false := rfl
@[simp] theorem resetEdge_rxsh (s : State) : (resetEdge s).rxsh = 0#8 := rfl
@[simp] theorem resetEdge_trace (s : State) : (resetEdge s).trace = [] := rfl
@[simp] theorem resetEdge_urom (s : State) : (resetEdge s).urom = s.urom := rfl
@[simp] theorem resetEdge_inputs (s : State) : (resetEdge s).inputs = s.inputs := rfl
@[simp] theorem resetEdge_answers (s : State) : (resetEdge s).answers = s.answers := rfl
@[simp] theorem resetEdge_draws (s : State) : (resetEdge s).draws = s.draws := rfl
@[simp] theorem resetEdge_slot (s : State) : (resetEdge s).slot = none := rfl

/-! ## Answers -/

/-- The answers after `k` have been given are the later ones. -/
@[simp] theorem answer_consume (s : State) (k j : Nat) : (s.consume k).answer j = s.answer (k + j) := by
  simp only [State.answer, consume_answers, consume_draws, List.getD_eq_getElem?_getD, List.getElem?_drop,
    Nat.add_assoc]

/-- Answers given one after the other. -/
@[simp] theorem consume_consume (s : State) (j k : Nat) : (s.consume j).consume k = s.consume (j + k) := by
  simp [State.consume, Nat.add_assoc]

@[simp] theorem consume_zero (s : State) : s.consume 0 = s := by simp [State.consume]

@[simp] theorem answer_select (s : State) (c : Bool) (k : Nat) :
    State.answer { s with cs := c } k = s.answer k := rfl
@[simp] theorem answer_index (s : State) (n k : Nat) :
    State.answer { s with fwIdx := n } k = s.answer k := rfl
@[simp] theorem answer_emit (e : Event) (s : State) (k : Nat) : (emit e s).answer k = s.answer k := rfl
@[simp] theorem answer_advance (s : State) (k : Nat) : (advance s).answer k = s.answer k := rfl
@[simp] theorem answer_jump (t : Byte) (s : State) (k : Nat) : (jump t s).answer k = s.answer k := rfl
@[simp] theorem answer_nextIndex (s : State) (k : Nat) : (nextIndex s).answer k = s.answer k := rfl
@[simp] theorem answer_sampled (s : State) (k : Nat) : (sampled s).answer k = s.answer k := rfl
@[simp] theorem answer_latch (d : Dst) (b : Byte) (s : State) (k : Nat) : (latch d b s).answer k = s.answer k := by
  cases d <;> rfl

end Sys2Proof.Machine
end

