-- ==== Sys2Proof/Laws/Ops.lean ====
section
/-! SUPPORT. What each shared operation can answer, said once: the state where it goes on, and when it stops. -/

namespace Sys2Proof.Machine

@[simp] theorem andThen_next (s : State) (f : State → Result) : andThen (.next s) f = f s := rfl
@[simp] theorem andThen_fault (r : Fault) (f : State → Result) : andThen (.fault r) f = .fault r := rfl
@[simp] theorem andThen_refused (r : Refusal) (f : State → Result) : andThen (.refused r) f = .refused r := rfl

/-- A sequence goes on only through a middle state. -/
theorem andThen_eq_next {o : Result} {f : State → Result} {t : State} :
    andThen o f = .next t ↔ ∃ s, o = .next s ∧ f s = .next t := by
  cases o <;> simp [andThen]

/-- Select goes on exactly when the bus and the pin are set up and select is inactive (R122). -/
theorem selectAssert_eq_next {s t : State} :
    selectAssert s = .next t ↔
      s.csOe = true ∧ s.busCfg = true ∧ s.cs = false ∧ t = advance (emit (.sel true) { s with cs := true }) := by
  unfold selectAssert
  split
  · rename_i h
    simp only [reduceCtorEq, false_iff]
    rintro ⟨h1, h2, -⟩
    simp [h1, h2] at h
  · rename_i h
    split
    · rename_i h2
      simp [h2]
    · rename_i h2
      simp only [Host.Outcome.next.injEq]
      constructor
      · rintro rfl
        simp_all
      · rintro ⟨-, -, -, rfl⟩
        rfl

/-- Select goes on where it may (R122). -/
theorem selectAssert_ok {s : State} (h1 : s.csOe = true) (h2 : s.busCfg = true) (h3 : s.cs = false) :
    selectAssert s = .next (advance (emit (.sel true) { s with cs := true })) :=
  selectAssert_eq_next.mpr ⟨h1, h2, h3, rfl⟩

/-- A transfer goes on exactly inside an assertion on a configured bus (R124). -/
theorem transfer_eq_next {dst : Dst} {tx : Byte} {s t : State} :
    transfer dst tx s = .next t ↔
      s.cs = true ∧ s.busCfg = true ∧
        t = advance (latch dst (s.answer 0) (emit (.xfer tx (s.answer 0)) (s.consume 1))) := by
  unfold transfer
  split
  · rename_i h
    simp only [reduceCtorEq, false_iff]
    rintro ⟨h1, h2, -⟩
    simp [h1, h2] at h
  · rename_i h
    simp only [Host.Outcome.next.injEq]
    constructor
    · rintro rfl
      simp_all
    · rintro ⟨-, -, rfl⟩
      rfl

/-- A transfer goes on where it may (R124). -/
theorem transfer_ok {s : State} (h1 : s.cs = true) (h2 : s.busCfg = true) (dst : Dst) (tx : Byte) :
    transfer dst tx s =
      .next (advance (latch dst (s.answer 0) (emit (.xfer tx (s.answer 0)) (s.consume 1)))) :=
  transfer_eq_next.mpr ⟨h1, h2, rfl⟩

/-- `TXF` goes on exactly inside the image and where a transfer may (R126). -/
theorem transferFirmware_eq_next {s t : State} :
    transferFirmware s = .next t ↔ s.fwIdx < Config.fwLen ∧ transfer .none (Config.fw s.fwIdx) s = .next t := by
  unfold transferFirmware
  split
  · rename_i h
    simp [Nat.not_lt.mpr h]
  · rename_i h
    simp [Nat.lt_of_not_le h]

/-- `FIN` goes on exactly with select inactive (R205). -/
theorem finish_eq_next {n : Session} {s t : State} :
    finish n s = .next t ↔ s.cs = false ∧ t = { s with session := n, busy := false, done := true } := by
  unfold finish
  split
  · rename_i h
    simp [h]
  · rename_i h
    simp only [Host.Outcome.next.injEq]
    constructor
    · rintro rfl
      simp_all
    · rintro ⟨-, rfl⟩
      rfl

/-- A presented command is held off, accepted or rejected, and never stops the machine (R200, R201, R206, R221). -/
theorem consumeCommand_cases (op : BitVec 2) (n : Half) (s : State) :
    (s.busy = true ∧ consumeCommand op n s = .next s) ∨
    (s.busy = false ∧ admitted op s.session = true ∧ consumeCommand op n s = .next (accept op n s)) ∨
    (s.busy = false ∧ admitted op s.session = false ∧ consumeCommand op n s = .next { s with err := true }) := by
  unfold consumeCommand takeReject
  cases s.busy <;> cases admitted op s.session <;> simp

/-- The four commands are consumed with their code and argument (R91). -/
theorem exec_decodeCommand (op : BitVec 2) (n : Half) (s : State) :
    ∃ k, exec (decodeCommand op n) s = consumeCommand op k s ∧ (op = 0b10#2 → k = n) := by
  have h : op = 0#2 ∨ op = 1#2 ∨ op = 2#2 ∨ op = 3#2 := by revert op; decide
  rcases h with rfl | rfl | rfl | rfl
  · exact ⟨0#16, rfl, fun e => absurd e (by decide)⟩
  · exact ⟨0#16, rfl, fun e => absurd e (by decide)⟩
  · exact ⟨n, rfl, fun _ => rfl⟩
  · exact ⟨0#16, rfl, fun e => absurd e (by decide)⟩

end Sys2Proof.Machine
end

