-- ==== Sys2Proof/Laws/Access.lean ====
section
/-! SUPPORT. What the composed operations do where select may be asserted: a single write, a single read, and the
image part of the firmware burst. -/

namespace Sys2Proof.Machine

/-- The byte a source of `WR a, src` names (R106, R142). -/
def sourceByte (src : WrSrc) (s : State) : Byte :=
  match src with
  | .imm v => v
  | .raw => s.raw
  | .masked m => s.rdval &&& m

/-- The data transfer of `WR` sends the byte its source names. -/
theorem transferSource_eq (src : WrSrc) (s : State) :
    transferSource src s = transfer .none (sourceByte src s) s := by
  cases src <;> rfl

/-- The source's byte depends on `RAW` and `RDVAL` alone. -/
theorem sourceByte_congr (src : WrSrc) {s t : State} (h1 : t.raw = s.raw) (h2 : t.rdval = s.rdval) :
    sourceByte src t = sourceByte src s := by
  cases src <;> simp [sourceByte, h1, h2]

theorem six_words (u : Byte) : u + 1#8 + 1#8 + 1#8 + 1#8 + 1#8 + 1#8 = u + 6#8 := by
  revert u
  decide

/-- A single write from idle select on a configured bus (R142). -/
theorem writeRegister_ok (a : Addr7) (src : WrSrc) (s : State) (h1 : s.csOe = true) (h2 : s.busCfg = true)
    (h3 : s.cs = false) :
    writeRegister a src s =
      .next { s with
        answers := s.answers.drop 2
        draws := s.draws + 2
        upc := s.upc + 6#8
        trace := s.trace ++ [.sel true, .xfer (writeCommand a) (s.answer 0), .xfer (sourceByte src s) (s.answer 1),
          .delay 20, .sel false, .delay 100] } := by
  refine andThen_eq_next.mpr ⟨_, selectAssert_ok h1 h2 h3, ?_⟩
  refine andThen_eq_next.mpr ⟨_, transfer_ok (by simp) (by simpa using h2) _ _, ?_⟩
  refine andThen_eq_next.mpr
    ⟨_, (transferSource_eq _ _).trans (transfer_ok (by simp) (by simpa using h2) _ _), ?_⟩
  refine congrArg Host.Outcome.next ?_
  ext : 1
  all_goals try simp [h3]
  · exact six_words _
  · exact sourceByte_congr src (by simp) (by simp)

/-- A single read from idle select on a configured bus (R143). -/
theorem readRegister_ok (a : Addr7) (dst : Dst) (s : State) (h1 : s.csOe = true) (h2 : s.busCfg = true)
    (h3 : s.cs = false) :
    readRegister a dst s =
      .next (latch dst (s.answer 1) { s with
        answers := s.answers.drop 2
        draws := s.draws + 2
        upc := s.upc + 6#8
        trace := s.trace ++ [.sel true, .xfer (readCommand a) (s.answer 0), .xfer 0#8 (s.answer 1),
          .delay 1, .sel false, .delay 19] }) := by
  refine andThen_eq_next.mpr ⟨_, selectAssert_ok h1 h2 h3, ?_⟩
  refine andThen_eq_next.mpr ⟨_, transfer_ok (by simp) (by simpa using h2) _ _, ?_⟩
  refine andThen_eq_next.mpr ⟨_, transfer_ok (by simp) (by simpa using h2) _ _, ?_⟩
  refine congrArg Host.Outcome.next ?_
  ext : 1
  all_goals try simp [h3]
  exact six_words _

/-- Where select may not be asserted, a single write stops before any event (R122). -/
theorem writeRegister_fault {a : Addr7} {src : WrSrc} {s : State} {f : Fault} (h : selectAssert s = .fault f) :
    writeRegister a src s = .fault f := by
  simp [writeRegister, h]

/-- Where select may not be asserted, a single read stops before any event (R122). -/
theorem readRegister_fault {a : Addr7} {dst : Dst} {s : State} {f : Fault} (h : selectAssert s = .fault f) :
    readRegister a dst s = .fault f := by
  simp [readRegister, h]

end Sys2Proof.Machine
end

