-- ==== Sys2Proof/Laws/Memory.lean ====
section
/-! SUPPORT. Reading and writing the micro-program memory: a read after a write, every other address, and the
canonical form. -/

namespace Sys2Proof.Machine

@[simp] theorem read_nil (a : Nat) : Memory.read [] a = romByte a := rfl

theorem read_erase_ne {a k : Nat} (h : k ≠ a) (m : Memory) : (Memory.erase m a).read k = m.read k := by
  induction m with
  | nil => rfl
  | cons c rest ih =>
    by_cases hc : c.1 = a
    · have hk : c.1 ≠ k := fun e => h (e ▸ hc)
      rw [Memory.erase, if_pos hc, Memory.read, if_neg hk]
    · simp [Memory.erase, Memory.read, hc, ih]

theorem read_insert_same (m : Memory) (a : Nat) (b : Byte) : (Memory.insert m a b).read a = b := by
  induction m with
  | nil => simp [Memory.insert, Memory.read]
  | cons c rest ih =>
    by_cases h1 : a < c.1
    · simp [Memory.insert, Memory.read, h1]
    · by_cases h2 : c.1 = a
      · simp [Memory.insert, Memory.read, h2]
      · simp [Memory.insert, Memory.read, h1, h2, ih]

theorem read_insert_ne {a k : Nat} (h : k ≠ a) (b : Byte) (m : Memory) :
    (Memory.insert m a b).read k = m.read k := by
  have ha : a ≠ k := fun e => h e.symm
  induction m with
  | nil => simp [Memory.insert, Memory.read, ha]
  | cons c rest ih =>
    by_cases h1 : a < c.1
    · simp [Memory.insert, Memory.read, h1, ha]
    · by_cases h2 : c.1 = a
      · simp [Memory.insert, Memory.read, h2, ha]
      · simp [Memory.insert, Memory.read, h1, h2, ih]

theorem wfAbove_cons (lo : Option Nat) (c : Host.Cell) (m : Memory) :
    Memory.wfAbove lo (c :: m) = true ↔
      (∀ a, lo = some a → a < c.1) ∧ c.1 < memorySize ∧ c.2 ≠ romByte c.1 ∧
        Memory.wfAbove (some c.1) m = true := by
  cases lo <;> simp [Memory.wfAbove, and_assoc]

theorem wfAbove_mono {lo : Option Nat} {k : Nat} {m : Memory} (h : ∀ a, lo = some a → a < k)
    (hm : Memory.wfAbove (some k) m = true) : Memory.wfAbove lo m = true := by
  cases m with
  | nil => rfl
  | cons c rest =>
    rw [wfAbove_cons] at hm ⊢
    exact ⟨fun a ha => (h a ha).trans (hm.1 k rfl), hm.2⟩

theorem read_of_above {a : Nat} {m : Memory} (h : Memory.wfAbove (some a) m = true) : m.read a = romByte a := by
  induction m with
  | nil => rfl
  | cons c rest ih =>
    rw [wfAbove_cons] at h
    have hc : a < c.1 := h.1 a rfl
    have hr : Memory.wfAbove (some a) rest = true := wfAbove_mono (by simpa using hc) h.2.2.2
    simp [Memory.read, Nat.ne_of_gt hc, ih hr]

theorem read_erase_same {lo : Option Nat} {m : Memory} (h : Memory.wfAbove lo m = true) (a : Nat) :
    (Memory.erase m a).read a = romByte a := by
  induction m generalizing lo with
  | nil => rfl
  | cons c rest ih =>
    rw [wfAbove_cons] at h
    by_cases hc : c.1 = a
    · simpa [Memory.erase, hc] using read_of_above (hc ▸ h.2.2.2)
    · simp [Memory.erase, Memory.read, hc, ih h.2.2.2]

theorem erase_wfAbove {lo : Option Nat} {m : Memory} (h : Memory.wfAbove lo m = true) (a : Nat) :
    Memory.wfAbove lo (Memory.erase m a) = true := by
  induction m generalizing lo with
  | nil => rfl
  | cons c rest ih =>
    rw [wfAbove_cons] at h
    by_cases hc : c.1 = a
    · simpa [Memory.erase, hc] using wfAbove_mono h.1 h.2.2.2
    · rw [Memory.erase, if_neg hc, wfAbove_cons]
      exact ⟨h.1, h.2.1, h.2.2.1, ih h.2.2.2⟩

theorem insert_wfAbove {lo : Option Nat} {m : Memory} (h : Memory.wfAbove lo m = true) {a : Nat} {b : Byte}
    (hlo : ∀ k, lo = some k → k < a) (ha : a < memorySize) (hb : b ≠ romByte a) :
    Memory.wfAbove lo (Memory.insert m a b) = true := by
  induction m generalizing lo with
  | nil => rw [Memory.insert, wfAbove_cons]; exact ⟨hlo, ha, hb, rfl⟩
  | cons c rest ih =>
    have h' := (wfAbove_cons lo c rest).mp h
    rw [Memory.insert]
    split
    · rename_i h1
      rw [wfAbove_cons]
      refine ⟨hlo, ha, hb, ?_⟩
      rw [wfAbove_cons]
      exact ⟨by simpa using h1, h'.2.1, h'.2.2.1, h'.2.2.2⟩
    · split
      · rename_i h2
        rw [wfAbove_cons]
        exact ⟨hlo, ha, hb, h2 ▸ h'.2.2.2⟩
      · rename_i h1 h2
        rw [wfAbove_cons]
        refine ⟨h'.1, h'.2.1, h'.2.2.1, ih h'.2.2.2 ?_⟩
        rintro k ⟨⟩
        omega

/-- A write keeps the canonical form. -/
theorem write_wf {m : Memory} (h : m.wf = true) {a : Nat} (ha : a < memorySize) (b : Byte) :
    (Memory.write m a b).wf = true := by
  unfold Memory.write
  split
  · exact erase_wfAbove h a
  · rename_i hb
    exact insert_wfAbove h (by simp) ha hb

/-- A read after a write to the same address gives the byte written. -/
theorem read_write_same {m : Memory} (h : m.wf = true) (a : Nat) (b : Byte) : (Memory.write m a b).read a = b := by
  unfold Memory.write
  split
  · rename_i hb
    rw [read_erase_same h, hb]
  · exact read_insert_same m a b

/-- A write leaves every other address alone. -/
theorem read_write_ne {a k : Nat} (h : k ≠ a) (m : Memory) (b : Byte) : (Memory.write m a b).read k = m.read k := by
  unfold Memory.write
  split
  · exact read_erase_ne h m
  · exact read_insert_ne h b m

theorem append_extract (w : Half) : (w.extractLsb' 8 8 ++ w.extractLsb' 0 8 : BitVec 16) = w := by
  apply BitVec.eq_of_getLsbD_eq
  intro i hi
  rw [BitVec.getLsbD_append]
  by_cases h : i < 8
  · simp [h]
  · simp [h, show i - 8 < 8 by omega, show 8 + (i - 8) = i by omega]

/-- Storing a word keeps the canonical form. -/
theorem writeWord_wf {m : Memory} (h : m.wf = true) (a : Byte) (w : Half) : (Memory.writeWord m a w).wf = true := by
  have ha : a.toNat < 256 := a.isLt
  exact write_wf (write_wf h (by unfold memorySize; omega) _) (by unfold memorySize; omega) _

/-- The word read after it was stored is the word stored. -/
theorem readWord_writeWord {m : Memory} (h : m.wf = true) (a : Byte) (w : Half) :
    (Memory.writeWord m a w).readWord a = w := by
  have ha : a.toNat < 256 := a.isLt
  have hw := write_wf h (show 2 * a.toNat < memorySize by unfold memorySize; omega) (w.extractLsb' 0 8)
  unfold Memory.readWord Memory.writeWord
  rw [read_write_same hw, read_write_ne (by omega), read_write_same h]
  exact append_extract w

/-- Where nothing is stored, the word is the micro-program's (R63). -/
@[simp] theorem readWord_nil (a : Byte) : Memory.readWord [] a = romWord a.toNat := by
  unfold Memory.readWord
  have h0 : romByte (2 * a.toNat) = (romWord a.toNat).extractLsb' 0 8 := by
    simp [romByte]
  have h1 : romByte (2 * a.toNat + 1) = (romWord a.toNat).extractLsb' 8 8 := by
    have : (2 * a.toNat + 1) / 2 = a.toNat := by omega
    simp [romByte, Nat.add_mod, this]
  rw [read_nil, read_nil, h0, h1]
  exact append_extract _

end Sys2Proof.Machine
end

