-- ==== Sys2Proof/Laws/PerInstr.lean ====
section
/-! SUPPORT. The family RoundTrip, one lemma per operation: the decoder reads a well-formed operation's encoding as
that operation. -/

namespace Sys2Proof.Laws.RoundTrip

/-- The decoder gives back what the encoder wrote. -/
def Statement (i : Instr) : Prop := WellFormed i = true → decode (encode i) = .ok i

theorem init : Statement .init := fun _ => rfl
theorem getConfig : Statement .getConfig := fun _ => rfl
theorem setConfig (n : Half) : Statement (.setConfig n) := fun _ => rfl
theorem getReport : Statement .getReport := fun _ => rfl

theorem buscfg : Statement .buscfg := by intro _; simp [decode, encode, decodeW16, bare]
theorem csout : Statement .csout := by intro _; simp [decode, encode, decodeW16, bare]
theorem csa : Statement .csa := by intro _; simp [decode, encode, decodeW16, bare]
theorem csd : Statement .csd := by intro _; simp [decode, encode, decodeW16, bare]
theorem txi (dst : Dst) (imm : Byte) : Statement (.txi dst imm) := by intro _; simp [decode, encode, decodeW16]
theorem txf : Statement .txf := by intro _; simp [decode, encode, decodeW16, bare]
theorem txr : Statement .txr := by intro _; simp [decode, encode, decodeW16, bare]
theorem txm (mask : Byte) : Statement (.txm mask) := by intro _; simp [decode, encode, decodeW16]
theorem waitu (n : BitVec 12) : Statement (.waitu n) := by
  intro h
  have hn : n ≠ 0#12 := by simpa [WellFormed] using h
  simp [decode, encode, decodeW16, hn]
theorem waitm (n : BitVec 12) : Statement (.waitm n) := by
  intro h
  have hn : n ≠ 0#12 := by simpa [WellFormed] using h
  simp [decode, encode, decodeW16, hn]
theorem fwz : Statement .fwz := by intro _; simp [decode, encode, decodeW16, bare]
theorem fwbr (t : Byte) : Statement (.fwbr t) := by intro _; simp [decode, encode, decodeW16]
theorem fwnx (t : Byte) : Statement (.fwnx t) := by intro _; simp [decode, encode, decodeW16]
theorem aluDiv200 : Statement .aluDiv200 := by intro _; simp [decode, encode, decodeW16]
theorem aluMul200 : Statement .aluMul200 := by intro _; simp [decode, encode, decodeW16]
theorem aluDec16 : Statement .aluDec16 := by intro _; simp [decode, encode, decodeW16]
theorem fin0 : Statement .fin0 := by intro _; simp [decode, encode, decodeW16]
theorem fin1 : Statement .fin1 := by intro _; simp [decode, encode, decodeW16]
theorem reservedOp0 (low : BitVec 12) : Statement (.reservedOp0 low) := by
  intro _; simp [decode, encode, decodeW16]

theorem wr (a : Addr7) (src : WrSrc) : Statement (.wr a src) := by
  intro _
  cases src <;> simp [decode, encode, decodePseudo, decodeW16, bare, decodeSix, WrSrc.transfer]
theorem rd (a : Addr7) (dst : Dst) : Statement (.rd a dst) := by
  intro _
  simp [decode, encode, decodePseudo, decodeW16, bare, decodeSix]

theorem singleWrite (a : Addr7) (v : Byte) : Statement (.singleWrite a v) := by
  intro h
  have ha : a ≠ Config.regSromLoadBurst := by simpa [WellFormed] using h
  have h1 : writeCommand a ≠ writeCommand Config.regSromLoadBurst := fun e => ha (writeCommand_inj e)
  have h2 : writeCommand a ≠ readCommand Config.regMotionBurst := (readCommand_ne_writeCommand _ _).symm
  simp [decode, encode, decodeFrame, h1, h2]
theorem singleRead (a : Addr7) : Statement (.singleRead a) := by
  intro _
  simp [decode, encode, decodeFrame, readCommand_ne_writeCommand]
theorem burstWrite : Statement .burstWrite := by
  intro _
  simp [decode, encode, decodeFrame]
theorem burstRead : Statement .burstRead := by
  intro _
  simp [decode, encode, decodeFrame, readCommand_ne_writeCommand]

end Sys2Proof.Laws.RoundTrip
end

