-- ==== Sys2Proof/Laws/Step.lean ====
section
/-! SUPPORT. What a step does, by what the edge finds (R227): reset, the slot, the running command, a presented
command, nothing. -/

namespace Sys2Proof.Machine

/-- An edge with `rst = 1` (R250). -/
theorem stepWith_reset {p : Ports} (h : p.rst = true) (s : State) : stepWith p s = .next (resetEdge s) := by
  simp [stepWith, h]

/-- An edge of a running command executes the word at `UPC` (R204), whatever the command ports carry (R206). -/
theorem stepWith_busy {p : Ports} {s : State} (h : p.rst = false) (hs : s.slot = none) (hb : s.busy = true) :
    stepWith p s = runWord s := by
  simp [stepWith, h, hs, hb]

/-- An edge of an idle block with a command presented consumes it (R200). -/
theorem stepWith_command {p : Ports} {s : State} (h : p.rst = false) (hs : s.slot = none) (hb : s.busy = false)
    (hv : p.cmdValid = true) : stepWith p s = exec (decodeCommand p.cmdOp p.cmdCpi) s := by
  simp [stepWith, h, hs, hb, hv]

/-- An edge with nothing to do (R200). -/
theorem stepWith_nothing {p : Ports} {s : State} (h : p.rst = false) (hs : s.slot = none) (hb : s.busy = false)
    (hv : p.cmdValid = false) : stepWith p s = .next s := by
  simp [stepWith, h, hs, hb, hv]

/-- An edge with an entry in the slot runs it. -/
theorem stepWith_slot {p : Ports} {s : State} {e : TableWord} (h : p.rst = false) (hs : s.slot = some e) :
    stepWith p s = runSlot e s := by
  simp [stepWith, h, hs]

/-- A fetched word that decodes is executed (R204). -/
theorem runWord_ok {s : State} {i : Instr} (h : fetch s = .ok i) : runWord s = exec i s := by simp [runWord, h]

/-- A fetched word that does not decode is a machine check (R102, R204). -/
theorem runWord_error {s : State} {r : Reject} (h : fetch s = .error r) : runWord s = .fault .illegalWord := by
  simp [runWord, h]

/-- With the fixed micro-program, the fetched word is R104's (R63). -/
theorem fetch_rom {s : State} (h : s.urom = []) : fetch s = decodeW16 (romWord s.upc.toNat) := by
  simp [fetch, h]

end Sys2Proof.Machine
end

