-- ==== Sys2Proof/Laws/Timing.lean ====
section
/-! SUPPORT. The bounds the parameters meet (R6, R253). -/

namespace Sys2Proof.Machine

theorem clkHz_pos : 0 < Config.clkHz := Config.clkHzPos.pos

theorem sckHalf_pos : 0 < Config.sckHalf := Config.sckHalfPos.pos

/-- `2^FW_AW > FW_LEN` (R6). -/
theorem fwLen_lt_two_pow : Config.fwLen < 2 ^ Config.fwAw := by
  unfold Config.fwAw
  have h := Nat.le_pow_clog (b := 2) (by decide) (Config.fwLen + 1)
  exact Nat.lt_of_lt_of_le (Nat.lt_succ_self _) (h.trans (Nat.pow_le_pow_right (by decide) (Nat.le_add_right _ _)))

theorem index_zero_fits : 0 < 2 ^ Config.fwAw := Nat.lt_of_le_of_lt (Nat.zero_le _) fwLen_lt_two_pow

/-- `2^WCNT_W > max(TICKS_US(100000), 16 × SCK_HALF)` (R6). -/
theorem longest_lt_two_pow : max Config.longestWait (16 * Config.sckHalf) < 2 ^ Config.wcntW := by
  unfold Config.wcntW
  have h := Nat.le_pow_clog (b := 2) (by decide) (max Config.longestWait (16 * Config.sckHalf) + 1)
  exact Nat.lt_of_lt_of_le (Nat.lt_succ_self _) (h.trans (Nat.pow_le_pow_right (by decide) (Nat.le_add_right _ _)))

/-- The longest wait is the 100 ms of SET_CONFIG (R6, R192). -/
theorem longestWait_eq : Config.longestWait = ticksUs 100000 := rfl

theorem transferTicks_fits : transferTicks < 2 ^ Config.wcntW :=
  Nat.lt_of_le_of_lt (Nat.le_max_right _ _) longest_lt_two_pow

theorem phase_zero_fits : 0 < 2 ^ Config.wcntW := Nat.lt_of_le_of_lt (Nat.zero_le _) longest_lt_two_pow

end Sys2Proof.Machine
end

