-- ==== Sys2Proof/Tests/Slice0.lean ====
section
/-! SUPPORT. The model's own tests: what WellFormed refuses, words written out from the encodings, single steps from
the vectors of spec/95_test_vectors.md, and for each obligation with hypotheses a witness that meets them. -/

namespace Sys2Proof.Tests

open Sys2Proof.Machine

/-! ## Helpers -/

/-- The outcome is a next state of which `p` holds. -/
def goesTo (o : Result) (p : State → Bool) : Bool :=
  match o with
  | .next t => p t
  | .fault _ => false
  | .refused _ => false

/-- The outcome is the machine check `f`. -/
def stopsWith (o : Result) (f : Fault) : Bool :=
  match o with
  | .next _ => false
  | .fault r => r == f
  | .refused _ => false

/-- The decoder reads `w` as `i`. -/
def reads (w : Half) (i : Instr) : Bool :=
  match decodeW16 w with
  | .ok j => j == i
  | .error _ => false

/-- The decoder rejects `w` for the reason `r`. -/
def rejects (w : Half) (r : Reject) : Bool :=
  match decodeW16 w with
  | .ok _ => false
  | .error q => q == r

/-- The host presents a command. -/
def present (op : BitVec 2) (cpi : Half) : Ports := { rst := false, cmdValid := true, cmdOp := op, cmdCpi := cpi }

/-- An idle block in READY. -/
def ready : State := { State.reset with session := .ready, done := true, busCfg := true, csOe := true }

/-- A command of READY in progress at `a` with select inactive. -/
def serving (a : Byte) : State := { ready with done := false, busy := true, upc := a }

/-- INIT in progress at `a` with the bus and the pin set up and select inactive. -/
def booting (a : Byte) : State := { serving a with session := .initializing }

/-- `s` with select asserted. -/
def selected (s : State) : State := { s with cs := true }

/-! ## WellFormed refuses -/

theorem test_wellFormed_waitu_zero : WellFormed (.waitu 0#12) = false := by decide
theorem test_wellFormed_waitm_zero : WellFormed (.waitm 0#12) = false := by decide
theorem test_wellFormed_burst_register : WellFormed (.singleWrite 0x62#7 0x5A#8) = false := by decide
theorem test_wellFormed_accepts :
    WellFormed (.waitu 4095#12) = true ∧ WellFormed (.waitm 1#12) = true ∧
      WellFormed (.singleWrite 0x63#7 0x5A#8) = true := by decide

/-! ## Words written out from the encodings (95_test_vectors.md 2.1) -/

theorem test_decode_buscfg : reads 0b0001000000000000#16 .buscfg = true := by decide
theorem test_decode_csout : reads 0b0010000000000000#16 .csout = true := by decide
theorem test_decode_csa : reads 0b0011000000000000#16 .csa = true := by decide
theorem test_decode_csd : reads 0b0100000000000000#16 .csd = true := by decide
theorem test_decode_txi :
    reads 0b0101000010111010#16 (.txi .none 0xBA#8) = true ∧ reads 0b0101000100000000#16 (.txi .rdval 0#8) = true ∧
      reads 0b0101001000000001#16 (.txi .dxl 1#8) = true ∧ reads 0b0101001100000010#16 (.txi .dxh 2#8) = true ∧
      reads 0b0101010000000100#16 (.txi .dyl 4#8) = true ∧ reads 0b0101010110000000#16 (.txi .dyh 0x80#8) = true := by
  decide
theorem test_decode_txf : reads 0b0110000000000000#16 .txf = true := by decide
theorem test_decode_txr : reads 0b0111000000000000#16 .txr = true := by decide
theorem test_decode_txm : reads 0b1000000011110000#16 (.txm 0xF0#8) = true := by decide
theorem test_decode_waitu :
    reads 0b1001000000010100#16 (.waitu 20#12) = true ∧ reads 0b1001111111111111#16 (.waitu 4095#12) = true := by
  decide
theorem test_decode_waitm : reads 0b1010000001100100#16 (.waitm 100#12) = true := by decide
theorem test_decode_fwz : reads 0b1011000000000000#16 .fwz = true := by decide
theorem test_decode_fwbr : reads 0b1100000001000101#16 (.fwbr 0x45#8) = true := by decide
theorem test_decode_fwnx : reads 0b1101000001000001#16 (.fwnx 0x41#8) = true := by decide
theorem test_decode_aluDiv200 : reads 0b1110000100000000#16 .aluDiv200 = true := by decide
theorem test_decode_aluMul200 : reads 0b1110001000000000#16 .aluMul200 = true := by decide
theorem test_decode_aluDec16 : reads 0b1110001100000000#16 .aluDec16 = true := by decide
theorem test_decode_fin0 : reads 0b1111000000000000#16 .fin0 = true := by decide
theorem test_decode_fin1 : reads 0b1111000100000000#16 .fin1 = true := by decide
theorem test_decode_reserved :
    reads 0x0000#16 (.reservedOp0 0x000#12) = true ∧ reads 0x0123#16 (.reservedOp0 0x123#12) = true := by decide

/-- 2.1, "must be 0" fields. -/
theorem test_reject_must_be_zero :
    [0x1001#16, 0x3100#16, 0x4001#16, 0x6010#16, 0x7100#16, 0xB001#16, 0x8100#16, 0xC145#16, 0xD141#16, 0xE101#16,
      0xF001#16].all (rejects · .mustBeZero) = true := by decide
/-- 2.1, reserved fields and zero counts. -/
theorem test_reject_reserved :
    [0x5600#16, 0x5F00#16].all (rejects · .reservedDst) = true ∧
      [0x9000#16, 0xA000#16].all (rejects · .zeroCount) = true ∧
      [0xE000#16, 0xE400#16, 0xEF00#16].all (rejects · .reservedFn) = true ∧
      rejects 0xF200#16 .reservedFin = true := by decide

/-- 2.1, the command bytes. -/
theorem test_command_bytes :
    writeCommand 0x3A#7 = 0xBA#8 ∧ writeCommand 0x39#7 = 0xB9#8 ∧ writeCommand 0x13#7 = 0x93#8 ∧
      writeCommand 0x62#7 = 0xE2#8 ∧ writeCommand 0x20#7 = 0xA0#8 ∧ writeCommand 0x00#7 = 0x80#8 ∧
      writeCommand 0x7F#7 = 0xFF#8 ∧ readCommand 0x20#7 = 0x20#8 ∧ readCommand 0x7F#7 = 0x7F#8 := by decide

/-- 2.1, the host command codes and their entries. -/
theorem test_decode_commands :
    decodeCommand 0b00#2 7#16 = .init ∧ decodeCommand 0b01#2 7#16 = .getConfig ∧
      decodeCommand 0b10#2 7#16 = .setConfig 7#16 ∧ decodeCommand 0b11#2 7#16 = .getReport ∧
      entryAddress 0b00#2 = 0x00#8 ∧ entryAddress 0b01#2 = 0x55#8 ∧ entryAddress 0b10#2 = 0x5D#8 ∧
      entryAddress 0b11#2 = 0x66#8 := by decide

/-- The three sources of `WR` (the encoding column of the table's row). -/
theorem test_decode_wr :
    decodePseudo [0x3000#16, 0x50BA#16, 0x505A#16, 0x9014#16, 0x4000#16, 0x9064#16] =
        .ok (.wr 0x3A#7 (.imm 0x5A#8)) ∧
      decodePseudo [0x3000#16, 0x508F#16, 0x7000#16, 0x9014#16, 0x4000#16, 0x9064#16] = .ok (.wr 0x0F#7 .raw) ∧
      decodePseudo [0x3000#16, 0x50A0#16, 0x80F0#16, 0x9014#16, 0x4000#16, 0x9064#16] =
        .ok (.wr 0x20#7 (.masked 0xF0#8)) := ⟨rfl, rfl, rfl⟩
/-- `RD`, and a group that is neither. -/
theorem test_decode_rd :
    decodePseudo [0x3000#16, 0x5020#16, 0x5100#16, 0x9001#16, 0x4000#16, 0x9013#16] = .ok (.rd 0x20#7 .rdval) ∧
      decodePseudo [0x3000#16, 0x5002#16, 0x5000#16, 0x9001#16, 0x4000#16, 0x9013#16] = .ok (.rd 0x02#7 .none) ∧
      decodePseudo [0x3000#16, 0x5020#16, 0x5100#16, 0x9014#16, 0x4000#16, 0x9013#16] = .error .notAnExpansion :=
  ⟨rfl, rfl, rfl⟩

/-- The frames of two bytes, and a string of bytes that is no frame. -/
theorem test_decode_frames :
    decodeFrame [0xBA#8, 0x5A#8] = .ok (.singleWrite 0x3A#7 0x5A#8) ∧
      decodeFrame [0x20#8, 0x00#8] = .ok (.singleRead 0x20#7) ∧ decodeFrame [] = .error .notAFrame := by
  refine ⟨?_, ?_, rfl⟩ <;> simp [decodeFrame, writeCommand, readCommand, writeFlag, addressOf, Config.regSromLoadBurst]
/-- The burst write of the table's row: 0xE2 and the image. -/
theorem test_decode_burst_write : decodeFrame (0xE2#8 :: firmwareImage) = .ok .burstWrite := by
  simp [decodeFrame, writeCommand, Config.regSromLoadBurst]

/-- The table's numbering: a command, two words, six words with the first in the low bits, the frames' first bytes. -/
theorem test_table_words :
    decodeTableWord 8 0b10 = some (.setConfig 0#16) ∧ decodeTableWord 16 0x5000 = some (.txi .none 0#8) ∧
      decodeTableWord 16 0x9000 = none ∧
      decodeTableWord 96 0x906440009014505A50BA3000 = some (.wr 0x3A#7 (.imm 0x5A#8)) ∧
      decodeTableWord 8 0x80 = some (.singleWrite 0x00#7 0#8) ∧ decodeTableWord 8 0x20 = some (.singleRead 0x20#7) ∧
      decodeTableWord 8 0xE2 = some .burstWrite ∧ decodeTableWord 8 0x50 = some .burstRead := by decide

/-! ## Single steps (95_test_vectors.md 2.2 to 2.7) -/

theorem test_buscfg : goesTo (exec .buscfg { State.reset with busy := true })
    (fun t => t.busCfg && t.upc == 1#8 && t.trace == [.cfg] && !t.csOe) = true := by decide
theorem test_csout : goesTo (exec .csout { State.reset with busy := true, busCfg := true, upc := 1#8 })
    (fun t => t.csOe && t.upc == 2#8 && t.trace == [.oe]) = true := by decide
theorem test_csd_inactive : goesTo (exec .csd (booting 2#8))
    (fun t => !t.cs && t.upc == 3#8 && t.trace == [.sel false]) = true := by decide
theorem test_csa : goesTo (exec .csa (booting 3#8))
    (fun t => t.cs && t.upc == 4#8 && t.trace == [.sel true]) = true := by decide
theorem test_csa_stops :
    stopsWith (exec .csa (selected (booting 3#8))) .nestedBegin = true ∧
      stopsWith (exec .csa (selected { booting 3#8 with csOe := false })) .unconfigured = true := by decide
theorem test_txi_discards :
    goesTo (exec (.txi .none 0xBA#8) { selected (booting 6#8) with answers := [0x37#8] })
      (fun t => t.upc == 7#8 && t.rdval == 0#8 && t.trace == [.xfer 0xBA#8 0x37#8]) = true := by decide
theorem test_txi_latches :
    goesTo (exec (.txi .rdval 0x00#8) { selected (booting 0x49#8) with answers := [0x8D#8] })
      (fun t => t.upc == 0x4A#8 && t.rdval == 0x8D#8 && t.trace == [.xfer 0x00#8 0x8D#8]) = true ∧
    goesTo (exec (.txi .dxh 0x00#8) { selected (serving 0x6B#8) with answers := [0xFF#8] })
      (fun t => t.dxh == 0xFF#8 && t.dxl == 0#8) = true := by decide
theorem test_txi_stops : stopsWith (exec (.txi .none 0x00#8) (booting 6#8)) .unselectedTransfer = true := by decide
/-- 2.2 for an image that has a first byte. -/
theorem test_txf (h : 0 < Config.fwLen) :
    exec .txf { selected (booting 0x42#8) with answers := [0x00#8] } =
      .next { selected (booting 0x43#8) with trace := [.xfer (Config.fw 0) 0x00#8], draws := 1 } := by
  have hn : ¬ Config.fwLen ≤ 0 := Nat.not_le.mpr h
  simp [exec, execTxf, transferFirmware, selected, booting, serving, ready, State.reset, hn, transfer, latch, advance,
    emit, State.answer, State.consume]
theorem test_txf_range :
    exec .txf { selected (booting 0x42#8) with fwIdx := Config.fwLen } = .fault .fwRange := by
  simp [exec, execTxf, transferFirmware]
theorem test_txr : goesTo (exec .txr { selected (serving 0x60#8) with raw := 0x09#8, answers := [0x00#8] })
    (fun t => t.upc == 0x61#8 && t.raw == 0x09#8 && t.trace == [.xfer 0x09#8 0x00#8]) = true := by decide
theorem test_txm :
    goesTo (exec (.txm 0xF0#8) { selected (booting 0x4F#8) with rdval := 0x8D#8, answers := [0x00#8] })
      (fun t => t.rdval == 0x8D#8 && t.trace == [.xfer 0x80#8 0x00#8]) = true ∧
    goesTo (exec (.txm 0xF0#8) { selected (booting 0x4F#8) with rdval := 0x0F#8, answers := [0x00#8] })
      (fun t => t.trace == [.xfer 0x00#8 0x00#8]) = true := by decide
theorem test_waitu : goesTo (exec (.waitu 20#12) (serving 0x61#8))
    (fun t => t.upc == 0x62#8 && t.trace == [.delay 20]) = true := by decide
theorem test_waitm : goesTo (exec (.waitm 50#12) (booting 0x0B#8)) (fun t => t.trace == [.delay 50000]) = true := by
  decide
theorem test_fwz : goesTo (exec .fwz { booting 0x3D#8 with fwIdx := 3 })
    (fun t => t.fwIdx == 0 && t.upc == 0x3E#8 && t.trace == []) = true := by decide
theorem test_fwbr_leaves :
    exec (.fwbr 0x45#8) { selected (booting 0x41#8) with fwIdx := Config.fwLen } =
      .next { selected (booting 0x45#8) with fwIdx := Config.fwLen } := by
  simp [exec, execFwbr, jump, selected, booting, serving, ready, State.reset]
theorem test_fwbr_falls_through (h : 0 < Config.fwLen) :
    exec (.fwbr 0x45#8) (selected (booting 0x41#8)) = .next (selected (booting 0x42#8)) := by
  have hn : ¬ 0 = Config.fwLen := Nat.ne_of_lt h
  simp [exec, execFwbr, advance, selected, booting, serving, ready, State.reset, hn]
theorem test_fwnx (h : 0 < Config.fwLen) :
    exec (.fwnx 0x41#8) (selected (booting 0x44#8)) = .next { selected (booting 0x41#8) with fwIdx := 1 } := by
  have h1 : 1 % 2 ^ Config.fwAw = 1 := Nat.mod_eq_of_lt (Nat.lt_of_le_of_lt h fwLen_lt_two_pow)
  simp [exec, execFwnx, jump, nextIndex, selected, booting, serving, ready, State.reset, h1]
/-- 2.6: 1800, the byte's end 51000, the lost bit 51200, and the largest argument. -/
theorem test_aluDiv200 :
    [(0, 0x00#8), (199, 0x00#8), (200, 0x01#8), (1800, 0x09#8), (51000, 0xFF#8), (51199, 0xFF#8), (51200, 0x00#8),
        (65535, 0x47#8)].all (fun p => goesTo (exec .aluDiv200 { serving 0x5D#8 with arg := BitVec.ofNat 16 p.1 })
      (fun t => t.raw == p.2 && t.upc == 0x5E#8)) = true := by decide
theorem test_aluMul200 :
    [(0x00#8, 0x0000#16), (0x01#8, 0x00C8#16), (0x09#8, 0x0708#16), (0x80#8, 0x6400#16), (0xFF#8, 0xC738#16)].all
      (fun p => goesTo (exec .aluMul200 { serving 0x5B#8 with rdval := p.1 })
        (fun t => t.cpi == p.2 && t.rdval == p.1)) = true := by decide
theorem test_aluDec16 :
    goesTo (exec .aluDec16 { serving 0x6F#8 with dxh := 0x12#8, dxl := 0x34#8, dyh := 0xED#8, dyl := 0xCC#8 })
      (fun t => t.x == 0x1234#16 && t.y == 0xEDCC#16 && sint16 t.x == 4660 && sint16 t.y == -4660) = true := by decide
/-- T1. -/
theorem test_sint16 :
    sint16 0xFFFF#16 = -1 ∧ sint16 0x8000#16 = -32768 ∧ sint16 0x7FFF#16 = 32767 ∧ sint16 0x0000#16 = 0 := by decide
theorem test_fin1 : goesTo (exec .fin1 (booting 0x54#8))
    (fun t => t.session == .ready && !t.busy && t.done && t.upc == 0x54#8) = true := by decide
theorem test_fin0 :
    goesTo (exec .fin0 (serving 0x70#8)) (fun t => t.session == .ready && !t.busy && t.done && t.upc == 0x70#8) = true ∧
      stopsWith (exec .fin0 (selected (serving 0x70#8))) .finSelected = true := by decide
theorem test_reserved_stops : stopsWith (exec (.reservedOp0 0x123#12) (serving 0x71#8)) .illegalWord = true := by decide
theorem test_init :
    goesTo (step { State.reset with inputs := [present 0b00#2 0#16] })
      (fun t => t.session == .initializing && t.busy && !t.done && t.upc == 0#8 && !t.err) = true ∧
    goesTo (step { ready with inputs := [present 0b00#2 0#16] })
      (fun t => t.err && t.done && t.session == .ready && !t.busy) = true := by decide
theorem test_getConfig :
    goesTo (step { ready with inputs := [present 0b01#2 0#16] }) (fun t => t.busy && !t.done && t.upc == 0x55#8) = true ∧
    goesTo (step { State.reset with inputs := [present 0b01#2 0#16] }) (fun t => t.err && !t.busy) = true := by decide
theorem test_setConfig :
    goesTo (step { ready with inputs := [present 0b10#2 1800#16], arg := 7#16 })
      (fun t => t.busy && !t.done && t.upc == 0x5D#8 && t.arg == 1800#16) = true ∧
    goesTo (step { State.reset with inputs := [present 0b10#2 1800#16] })
      (fun t => t.err && !t.busy && t.arg == 0#16) = true := by decide
theorem test_getReport :
    goesTo (step { ready with inputs := [present 0b11#2 9999#16], arg := 1800#16, err := true })
      (fun t => t.busy && t.err && t.upc == 0x66#8 && t.arg == 1800#16) = true ∧
    goesTo (step { State.reset with inputs := [present 0b11#2 0#16] })
      (fun t => t.err && !t.busy && t.session == .uninit && t.trace == []) = true := by decide
/-- 2.3: `WR 0x20, RDVAL & 0xF0` with `RDVAL = 0x8D`. -/
theorem test_wr :
    goesTo (exec (.wr 0x20#7 (.masked 0xF0#8)) { booting 0x4D#8 with rdval := 0x8D#8, answers := [0#8, 0#8] })
      (fun t => t.upc == 0x53#8 && t.trace ==
        [.sel true, .xfer 0xA0#8 0#8, .xfer 0x80#8 0#8, .delay 20, .sel false, .delay 100]) = true := by decide
/-- 2.3: `RD 0x20, RDVAL` with answer 0x8D. -/
theorem test_rd :
    goesTo (exec (.rd 0x20#7 .rdval) { booting 0x47#8 with answers := [0#8, 0x8D#8] })
      (fun t => t.upc == 0x4D#8 && t.rdval == 0x8D#8 && t.trace ==
        [.sel true, .xfer 0x20#8 0#8, .xfer 0x00#8 0x8D#8, .delay 1, .sel false, .delay 19]) = true := by decide
theorem test_singleWrite :
    goesTo (exec (.singleWrite 0x39#7 0x02#8) { ready with answers := [0#8, 0#8] })
      (fun t => t.upc == 0#8 && t.trace ==
        [.sel true, .xfer 0xB9#8 0#8, .xfer 0x02#8 0#8, .delay 20, .sel false, .delay 100]) = true := by decide
theorem test_singleRead :
    goesTo (exec (.singleRead 0x02#7) { ready with answers := [0#8, 0x81#8] })
      (fun t => t.rdval == 0x81#8 && t.trace ==
        [.sel true, .xfer 0x02#8 0#8, .xfer 0x00#8 0x81#8, .delay 1, .sel false, .delay 19]) = true := by decide
/-- 2.4, the row of an empty image. -/
theorem test_burstWrite (h : Config.fwLen = 0) :
    exec .burstWrite { ready with answers := [0#8] } =
      .next { ready with draws := 1, trace := [.sel true, .xfer 0xE2#8 0#8, .delay 15, .sel false] } := by
  simp [exec, execBurstWrite, frame, burstWriteOps, h, sendImage, selectAssert, transfer, wait, selectRelease, latch,
    advance, emit, andThen, State.answer, State.consume, ready, State.reset, writeCommand, Config.regSromLoadBurst]
/-- 2.5, the byte order check. -/
theorem test_burstRead :
    goesTo (exec .burstRead { ready with answers := [0#8, 0x80#8, 0x55#8, 0x34#8, 0x12#8, 0xCC#8, 0xED#8] })
      (fun t => t.dxl == 0x34#8 && t.dxh == 0x12#8 && t.dyl == 0xCC#8 && t.dyh == 0xED#8 && !t.cs) = true := by decide

/-! ## Step, reset and placing -/

/-- 2.7: nothing presented, nothing changed; the last row: reset wins. -/
theorem test_step_nothing : step State.reset = .next State.reset := rfl
theorem test_step_reset :
    goesTo (step { serving 0x60#8 with inputs := [{ present 0b00#2 0#16 with rst := true }], cpi := 1800#16, cs := true })
      (fun t => !t.busy && t.session == .uninit && t.cpi == 0#16 && !t.cs && t.trace == []) = true := by decide
/-- A placed word is what the first step after reset runs (R104: 0x1000 is BUSCFG). -/
theorem test_withFetchWord_buscfg :
    goesTo (step (State.reset.withFetchWord 16 0x1000)) (fun t => t.busCfg && t.trace == [.cfg]) = true := by decide
theorem test_withFetchWord_aluMul200 :
    goesTo (step (({ State.reset with rdval := 9#8 } : State).withFetchWord 16 0xE200))
      (fun t => t.cpi == 1800#16) = true := by decide
theorem test_withFetchWord_command :
    goesTo (step (State.reset.withFetchWord 8 0)) (fun t => t.session == .initializing) = true := by decide
theorem test_withFetchWord_frame :
    goesTo (step (ready.withFetchWord 8 0x91)) (fun t => t.draws == 2 && t.slot == none) = true := by decide
/-- Storing the fixed contents leaves nothing listed: the memory is in canonical form. -/
theorem test_memory_canonical :
    Memory.writeWord [] 0x00#8 0x1000#16 = [] ∧ (Memory.writeWord [] 0x00#8 0xF100#16).wf = true ∧
      State.reset.urom.wf = true := by decide
/-- R273: one bit of a transfer, most significant bit first. -/
theorem test_setBit : setBit 0x00#8 7 true = 0x80#8 ∧ setBit 0xFF#8 0 false = 0xFE#8 := by decide
/-- R104: the first and last words of each routine. -/
theorem test_rom_ends :
    romWord 0x00 = 0x1000#16 ∧ romWord 0x54 = 0xF100#16 ∧ romWord 0x5C = 0xF000#16 ∧ romWord 0x65 = 0xF000#16 ∧
      romWord 0x70 = 0xF000#16 ∧ romWord 0x71 = 0x0000#16 := by decide

/-! ## Witnesses: encoding and the step -/

theorem witness_DecodeEncodeRoundTrip :
    WellFormed (.waitu 1#12) = true ∧ WellFormed (.txi .dyh 0xFF#8) = true ∧
      WellFormed (.singleWrite 0x7F#7 0xFF#8) = true ∧ WellFormed .burstRead = true := by decide

theorem witness_EncodeOfDecodedWord : decodeW16 0x9FFF#16 = .ok (.waitu 4095#12) := rfl

/-- A running command at the first address that holds an illegal word, and at the last. -/
theorem witness_IllegalWordsAreCaught :
    (portsNow (serving 0x71#8)).rst = false ∧ (serving 0x71#8).slot = none ∧ (serving 0x71#8).busy = true ∧
      (serving 0x71#8).urom.readWord (serving 0x71#8).upc = 0#16 ∧ IllegalWord 0#16 ∧
      (serving 0xFF#8).urom.readWord (serving 0xFF#8).upc = 0#16 := by
  refine ⟨rfl, rfl, rfl, by decide, .inl (by decide), by decide⟩

theorem witness_MicroProgramMatchesListing :
    listing[0]? = some .buscfg ∧ listing[112]? = some .fin0 ∧ listing[113]? = none := by decide

/-- One state for each clause. -/
theorem witness_StepRunsDecodedOperation :
    ((portsNow (serving 0x70#8)).rst = false ∧ (serving 0x70#8).slot = none ∧ (serving 0x70#8).busy = true ∧
      decodeW16 ((serving 0x70#8).urom.readWord (serving 0x70#8).upc) = .ok .fin0) ∧
    (∃ s : State, (portsNow s).rst = false ∧ s.slot = none ∧ s.busy = false ∧ (portsNow s).cmdValid = true) ∧
    (∃ s : State, (portsNow s).rst = false ∧ s.slot = none ∧ s.busy = false ∧ (portsNow s).cmdValid = false) ∧
    (∃ (s : State) (e : TableWord), (portsNow s).rst = false ∧ s.slot = some e ∧
      decodeTableWord e.nbits e.w = some .burstWrite) :=
  ⟨⟨rfl, rfl, rfl, rfl⟩, ⟨{ ready with inputs := [present 0b11#2 0#16] }, rfl, rfl, rfl, rfl⟩,
    ⟨State.reset, rfl, rfl, rfl, rfl⟩,
    ⟨{ ready with slot := some { nbits := 8, w := 0xE2 } }, { nbits := 8, w := 0xE2 }, rfl, rfl, rfl⟩⟩

/-- A word, a command and a frame. -/
theorem witness_PlacedWordRunsNext :
    State.reset.urom.wf = true ∧ decodeTableWord 16 0x1000 = some .buscfg ∧ decodeTableWord 8 3 = some .getReport ∧
      decodeTableWord 8 0xE2 = some .burstWrite := by decide

theorem witness_MicroProgramIsReadOnly :
    (∃ t, exec .buscfg State.reset = .next t) ∧ ∃ t, step State.reset = .next t := ⟨⟨_, rfl⟩, ⟨_, rfl⟩⟩

/-! ## Witnesses: single operations -/

theorem witness_SelectAssertRunsOrStops :
    (ready.csOe = true ∧ ready.busCfg = true ∧ ready.cs = false) ∧ State.reset.csOe = false ∧
      ((selected ready).csOe = true ∧ (selected ready).busCfg = true ∧ (selected ready).cs = true) := by decide

/-- With an image of at least one byte, a state in which `TXF` runs too. -/
theorem witness_TransfersRun :
    ((selected ready).cs = true ∧ (selected ready).busCfg = true) ∧
      (0 < Config.fwLen → (selected ready).fwIdx < Config.fwLen) := ⟨⟨rfl, rfl⟩, fun h => h⟩

theorem witness_TransfersStop :
    ready.cs = false ∧ State.reset.busCfg = false ∧ (0 < Config.fwLen → ready.fwIdx < Config.fwLen) ∧
      Config.fwLen ≤ ({ ready with fwIdx := Config.fwLen } : State).fwIdx :=
  ⟨rfl, rfl, fun h => h, Nat.le_refl _⟩

theorem witness_WriteRegisterRuns : ready.csOe = true ∧ ready.busCfg = true ∧ ready.cs = false := by decide
theorem witness_ReadRegisterRuns : ready.csOe = true ∧ ready.busCfg = true ∧ ready.cs = false := by decide
theorem witness_SingleFramesRun : ready.csOe = true ∧ ready.busCfg = true ∧ ready.cs = false := by decide
theorem witness_BurstFramesRun : ready.csOe = true ∧ ready.busCfg = true ∧ ready.cs = false := by decide

/-- A script that presents no reset is quiet for any number of edges. -/
theorem quiet_of_all {s : State} (h : ∀ p ∈ s.inputs, p.rst = false) (n : Nat) : quiet n s :=
  fun p hp => h p (List.mem_of_mem_take hp)

/-- Step 3 of INIT: `WR 0x3A, 0x5A` stands at 0x05 (R104). -/
theorem witness_PseudoOperationIsItsSixWords :
    encode (.wr 0x3A#7 (.imm 0x5A#8)) =
        .pseudo [0x3000#16, 0x50BA#16, 0x505A#16, 0x9014#16, 0x4000#16, 0x9064#16] ∧
      (booting 0x05#8).slot = none ∧ (booting 0x05#8).busy = true ∧ quiet 6 (booting 0x05#8) ∧
      ∀ k w, [0x3000#16, 0x50BA#16, 0x505A#16, 0x9014#16, 0x4000#16, 0x9064#16][k]? = some w →
        (booting 0x05#8).urom.readWord ((booting 0x05#8).upc + BitVec.ofNat 8 k) = w := by
  refine ⟨rfl, rfl, rfl, quiet_of_all (fun p hp => by simp [booting, serving, ready, State.reset] at hp) 6, ?_⟩
  intro k w h
  match k with
  | 0 => cases h; decide
  | 1 => cases h; decide
  | 2 => cases h; decide
  | 3 => cases h; decide
  | 4 => cases h; decide
  | 5 => cases h; decide
  | k + 6 => simp at h

/-- The index at the end of the image, and, where the image has a byte, below it. -/
theorem witness_FirmwareLoopOpsRun :
    ({ booting 0x41#8 with fwIdx := Config.fwLen } : State).fwIdx = Config.fwLen ∧
      (0 < Config.fwLen → (booting 0x41#8).fwIdx ≠ Config.fwLen ∧ (booting 0x44#8).fwIdx < Config.fwLen) :=
  ⟨rfl, fun h => ⟨Nat.ne_of_lt h, h⟩⟩

theorem witness_AdmittedCommandsAreAccepted :
    (State.reset.busy = false ∧ State.reset.session = .uninit) ∧ ready.busy = false ∧ ready.session = .ready := by decide

theorem witness_OtherCommandsAreRejected :
    (ready.busy = false ∧ ready.session = .ready) ∧ State.reset.busy = false ∧ State.reset.session = .uninit := by decide

theorem witness_InitializingRejectsWhereIdle :
    ({ ready with session := .initializing } : State).busy = false ∧
      ({ ready with session := .initializing } : State).session = .initializing := by decide

theorem witness_CommandsAreHeldOffWhileBusy :
    (serving 0x66#8).busy = true ∧ (present 0b11#2 0#16).rst = Ports.idle.rst := by decide

theorem witness_FinEndsTheCommand : (booting 0x54#8).cs = false ∧ (selected (booting 0x54#8)).cs = true := by decide

theorem witness_AccessesStopWhereSelectMayNotBeAsserted :
    exec .csa State.reset = .fault .unconfigured ∧ exec .csa (selected ready) = .fault .nestedBegin := ⟨rfl, rfl⟩

theorem witness_RegistersHaveOnlyTheirWriters :
    (∃ t, exec .aluMul200 ready = .next t) ∧ writers .aluMul200 .rdval = false := ⟨⟨_, rfl⟩, by decide⟩

/-- One instruction for each clause; `FWBR` at the end of the image. -/
theorem witness_ProgramCounterRules :
    (decodeW16 0xD041#16 = .ok (.fwnx 0x41#8) ∧ ∃ t, exec (.fwnx 0x41#8) ready = .next t) ∧
    (decodeW16 0xC045#16 = .ok (.fwbr 0x45#8) ∧
      ∃ t, exec (.fwbr 0x45#8) { ready with fwIdx := Config.fwLen } = .next t) ∧
    (decodeW16 0xF100#16 = .ok .fin1 ∧ ∃ t, exec .fin1 ready = .next t) ∧
    (decodeW16 0x1000#16 = .ok .buscfg ∧ ∃ t, exec .buscfg { ready with upc := 0xFF#8 } = .next t) :=
  ⟨⟨rfl, _, rfl⟩, ⟨rfl, _, rfl⟩, ⟨rfl, _, rfl⟩, ⟨rfl, _, rfl⟩⟩

theorem witness_OneEventPerMicroOperation :
    (decodeW16 0x5100#16 = .ok (.txi .rdval 0#8) ∧ isTransfer (.txi .rdval 0#8) = true ∧
      ∃ t, exec (.txi .rdval 0#8) (selected ready) = .next t) ∧
    (decodeW16 0x9014#16 = .ok (.waitu 20#12) ∧ isTransfer (.waitu 20#12) = false ∧
      ∃ t, exec (.waitu 20#12) ready = .next t) :=
  ⟨⟨rfl, rfl, _, rfl⟩, ⟨rfl, rfl, _, rfl⟩⟩

theorem witness_ErrIsStickyAndBlocksNothing :
    (∃ t, exec .getReport { ready with err := true } = .next t) ∧
    (∃ t, step { ready with err := true } = .next t) ∧ (portsNow { ready with err := true }).rst = false ∧
    (∃ t, exec .getReport { ready with err := false } = .next t) ∧
    exec .csa { State.reset with err := false } = .fault .unconfigured :=
  ⟨⟨_, rfl⟩, ⟨_, rfl⟩, rfl, ⟨_, rfl⟩, rfl⟩

/-- Every machine check arises; `ILLEGAL_WORD` from the reserved opcode. -/
theorem witness_MachineCheckCauses :
    (decodeW16 0x0000#16 = .ok (.reservedOp0 0#12) ∧ exec (.reservedOp0 0#12) ready = .fault .illegalWord) ∧
    (decodeW16 0x3000#16 = .ok .csa ∧ exec .csa State.reset = .fault .unconfigured ∧
      exec .csa (selected ready) = .fault .nestedBegin) ∧
    (decodeW16 0x7000#16 = .ok .txr ∧ exec .txr ready = .fault .unselectedTransfer) ∧
    (decodeW16 0x6000#16 = .ok .txf ∧ exec .txf { ready with fwIdx := Config.fwLen } = .fault .fwRange) ∧
    (decodeW16 0xF000#16 = .ok .fin0 ∧ exec .fin0 (selected ready) = .fault .finSelected) :=
  ⟨⟨rfl, rfl⟩, ⟨rfl, rfl, rfl⟩, ⟨rfl, rfl⟩, ⟨rfl, by simp [exec, execTxf, transferFirmware]⟩,
    ⟨rfl, rfl⟩⟩

/-! ## Witnesses: the invariant -/

/-- A state that differs from reset only in what the environment holds meets the invariant. -/
theorem inv_fresh (inputs : List Ports) (answers : List Byte) :
    Inv { State.reset with inputs := inputs, answers := answers } where
  rom := rfl
  slot := rfl
  idxWidth := index_zero_fits
  tphWidth := phase_zero_fits
  doneIdle := fun _ => rfl
  running := fun h => nomatch h
  idle := fun _ => ⟨rfl, (fun h => nomatch h), (fun _ => ⟨rfl, rfl⟩), (fun h => nomatch h)⟩

/-- So does an idle block in READY. -/
theorem inv_ready (inputs : List Ports) (answers : List Byte) :
    Inv { ready with inputs := inputs, answers := answers } where
  rom := rfl
  slot := rfl
  idxWidth := index_zero_fits
  tphWidth := phase_zero_fits
  doneIdle := fun _ => rfl
  running := fun h => nomatch h
  idle := fun _ => ⟨rfl, (fun h => nomatch h), (fun h => nomatch h), (fun _ => ⟨rfl, rfl⟩)⟩

/-- INIT at its last word, with the image sent. -/
def atFin1 : State := { booting 0x54#8 with fwIdx := Config.fwLen }

theorem inv_atFin1 : Inv atFin1 where
  rom := rfl
  slot := rfl
  idxWidth := fwLen_lt_two_pow
  tphWidth := phase_zero_fits
  doneIdle := fun h => nomatch h
  running := fun _ =>
    { range := by decide, booting := fun _ => rfl, serving := fun h => absurd h (by decide), select := by decide
      configured := by decide, driven := by decide, index := fun _ h => absurd h (by decide)
      inImage := fun _ h => absurd h (by decide), imageSent := fun _ _ => rfl }
  idle := fun h => nomatch h

/-- GET_REPORT at its first word. -/
def atReport : State := serving 0x66#8

theorem inv_atReport : Inv atReport where
  rom := rfl
  slot := rfl
  idxWidth := index_zero_fits
  tphWidth := phase_zero_fits
  doneIdle := fun h => nomatch h
  running := fun _ =>
    { range := by decide, booting := fun h => absurd h (by decide), serving := fun _ => rfl, select := by decide
      configured := by decide, driven := by decide, index := fun _ h => absurd h (by decide)
      inImage := fun _ h => absurd h (by decide), imageSent := fun _ h => absurd h (by decide) }
  idle := fun h => nomatch h

theorem witness_StepKeepsInvariantAndNeverStops : Inv State.reset ∧ Inv atFin1 ∧ Inv atReport :=
  ⟨inv_fresh [] [], inv_atFin1, inv_atReport⟩

theorem witness_TickKeepsInvariantAndNeverStops : Inv State.reset ∧ Inv atFin1 ∧ Inv atReport :=
  ⟨inv_fresh [] [], inv_atFin1, inv_atReport⟩

/-- The two transitions of R28 and a reset edge. -/
theorem witness_SessionLifecycle :
    (Inv { State.reset with inputs := [present 0b00#2 0#16] } ∧
      ∃ t, step { State.reset with inputs := [present 0b00#2 0#16] } = .next t ∧ t.session = .initializing) ∧
    (Inv atFin1 ∧ (portsNow atFin1).rst = false ∧ atFin1.session = .initializing ∧ atFin1.upc = 0x54#8 ∧
      ∃ t, step atFin1 = .next t ∧ t.session = .ready) ∧
    (Inv { ready with inputs := [{ Ports.idle with rst := true }] } ∧
      ∃ t, step { ready with inputs := [{ Ports.idle with rst := true }] } = .next t) := by
  refine ⟨⟨inv_fresh _ [], _, rfl, rfl⟩, ⟨inv_atFin1, rfl, rfl, rfl, ?_⟩, ⟨inv_ready _ [], _, rfl⟩⟩
  exact ⟨_, rfl, rfl⟩

theorem witness_ResetValues : Ports.idle.rst = false ∧ Ports.idle.cmdValid = false := ⟨rfl, rfl⟩

theorem witness_NoWayBackToUninit :
    (∃ t, step ready = .next t) ∧ (portsNow ready).rst = false ∧ ready.session ≠ .uninit := ⟨⟨_, rfl⟩, rfl, by decide⟩

theorem witness_ResetEdgeWinsAtOnce :
    (portsNow { serving 0x60#8 with inputs := [{ Ports.idle with rst := true }] }).rst = true ∧
      ({ Ports.idle with rst := true } : Ports).rst = true := ⟨rfl, rfl⟩

theorem witness_StepKeepsSelectDiscipline :
    (Inv State.reset ∧ Disciplined State.reset ∧ ∃ t, step State.reset = .next t) ∧
    (Inv atReport ∧ Disciplined atReport ∧ ∃ t, step atReport = .next t) :=
  ⟨⟨inv_fresh [] [], by unfold Disciplined; decide, _, rfl⟩, ⟨inv_atReport, by unfold Disciplined; decide, _, rfl⟩⟩

theorem witness_EveryCommandCompletes :
    Inv atReport ∧ atReport.busy = true ∧ quiet (82 + 4 * Config.fwLen) atReport :=
  ⟨inv_atReport, rfl, quiet_of_all (fun p hp => by simp [atReport, serving, ready, State.reset] at hp) _⟩

/-- Two states that differ only in the answers to come: one pair that goes on, one that stops, one that is refused. -/
theorem witness_SensorCannotSteer :
    (SameControl { atReport with answers := [0x00#8] } { atReport with answers := [0xFF#8] } ∧
      ∃ t, step { atReport with answers := [0x00#8] } = .next t) ∧
    (SameControl { serving 0x71#8 with rdval := 1#8 } (serving 0x71#8) ∧
      step { serving 0x71#8 with rdval := 1#8 } = .fault .illegalWord) ∧
    (SameControl { ready with slot := some { nbits := 24, w := 0 }, x := 1#16 }
        { ready with slot := some { nbits := 24, w := 0 } } ∧
      step { ready with slot := some { nbits := 24, w := 0 }, x := 1#16 } = .refused .slotUndecoded) := by
  refine ⟨⟨by constructor <;> rfl, _, rfl⟩, ⟨by constructor <;> rfl, rfl⟩, by constructor <;> rfl, rfl⟩

/-! ## Witnesses: runs -/

/-- No reset in the script. -/
theorem present_not_reset {op : BitVec 2} {n : Half} {p : Ports} (h : p ∈ [present op n]) : p.rst = false := by
  rw [List.mem_singleton.mp h]; rfl

/-- The firmware burst about to start. -/
theorem witness_FirmwareBurstSendsTheImage :
    (booting 0x3D#8).urom = [] ∧ (booting 0x3D#8).slot = none ∧ (booting 0x3D#8).busy = true ∧
      (booting 0x3D#8).upc = 0x3D#8 ∧ (booting 0x3D#8).cs = false ∧ (booting 0x3D#8).csOe = true ∧
      (booting 0x3D#8).busCfg = true ∧ quiet (6 + 4 * Config.fwLen) (booting 0x3D#8) :=
  ⟨rfl, rfl, rfl, rfl, rfl, rfl, rfl, quiet_of_all (fun p hp => by simp [booting, serving, ready, State.reset] at hp) _⟩

/-- INIT presented right after reset. -/
theorem witness_InitRunsToReady :
    ∃ s : State, Inv s ∧ s.busy = false ∧ s.session = .uninit ∧ presents 0b00#2 0#16 s ∧
      quiet (83 + 4 * Config.fwLen) s :=
  ⟨{ State.reset with inputs := [present 0b00#2 0#16] }, inv_fresh _ [], rfl, rfl, rfl,
    quiet_of_all (fun _ => present_not_reset) _⟩

theorem witness_GetReportRuns :
    ∃ s : State, Inv s ∧ s.busy = false ∧ s.session = .ready ∧ presents 0b11#2 9999#16 s ∧ quiet 12 s :=
  ⟨{ ready with inputs := [present 0b11#2 9999#16] }, inv_ready _ [], rfl, rfl, rfl,
    quiet_of_all (fun _ => present_not_reset) _⟩

theorem witness_GetConfigRuns :
    ∃ s : State, Inv s ∧ s.busy = false ∧ s.session = .ready ∧ presents 0b01#2 0#16 s ∧ quiet 9 s :=
  ⟨{ ready with inputs := [present 0b01#2 0#16] }, inv_ready _ [], rfl, rfl, rfl,
    quiet_of_all (fun _ => present_not_reset) _⟩

theorem witness_SetConfigRuns :
    ∃ s : State, Inv s ∧ s.busy = false ∧ s.session = .ready ∧ presents 0b10#2 51200#16 s ∧ quiet 10 s :=
  ⟨{ ready with inputs := [present 0b10#2 51200#16] }, inv_ready _ [], rfl, rfl, rfl,
    quiet_of_all (fun _ => present_not_reset) _⟩

/-- SET_CONFIG n, then GET_CONFIG at the edge after its nine micro-operations. -/
def setThenGet (n : Half) (answers : List Byte) : State :=
  { ready with
    inputs := present 0b10#2 n :: (List.replicate 9 Ports.idle ++ [present 0b01#2 0#16]), answers := answers }

/-- The premises at the ends of both ranges: 51199 and 51000, with the sensor answering what was written. -/
theorem witness_CpiRoundTrip :
    (∀ n answers, Inv (setThenGet n answers) ∧ (setThenGet n answers).busy = false ∧
      (setThenGet n answers).session = .ready ∧ presents 0b10#2 n (setThenGet n answers) ∧
      (setThenGet n answers).inputs[10]? = some { rst := false, cmdValid := true, cmdOp := 0b01#2, cmdCpi := 0#16 } ∧
      quiet 19 (setThenGet n answers)) ∧
    (((setThenGet 51199#16 [0#8, 0#8, 0#8, 0xFF#8]).answer 3).toNat = (51199#16).toNat / 200 % 256 ∧
      (51199#16).toNat ≤ 51199) ∧
    (((setThenGet 51000#16 [0#8, 0#8, 0#8, 0xFF#8]).answer 3).toNat = (51000#16).toNat / 200 % 256 ∧
      (51000#16).toNat % 200 = 0 ∧ (51000#16).toNat ≤ 51000) := by
  refine ⟨fun n answers => ⟨inv_ready _ _, rfl, rfl, rfl, rfl, ?_⟩, by decide, by decide⟩
  apply quiet_of_all
  intro p hp
  simp only [setThenGet, List.mem_cons, List.mem_append, List.mem_replicate, List.not_mem_nil, or_false] at hp
  rcases hp with rfl | ⟨-, rfl⟩ | rfl <;> rfl

/-- Steps of a reachable state reach reachable states. -/
theorem reachable_runSteps {n : Nat} {s t : State} (hs : Reachable s) (h : runSteps n s = .next t) : Reachable t := by
  induction n generalizing s with
  | zero => cases h; exact hs
  | succ n ih =>
    obtain ⟨u, hu, ht⟩ : ∃ u, step s = .next u ∧ runSteps n u = .next t := by
      simp only [runSteps] at h
      cases hst : step s with
      | next u => rw [hst] at h; exact ⟨u, rfl, h⟩
      | fault f => rw [hst] at h; cases h
      | refused r => rw [hst] at h; cases h
    exact ih (.step s u hs hu) ht

/-- Reset with INIT presented, as a reachable state. -/
def bootStart : State :=
  { State.reset with inputs := [present 0b00#2 0#16], answers := [], draws := 0 }

/-- States reachable from reset under the premises of R35 (a), (b), (c), (g): reset, and select asserted at 0x04. -/
theorem witness_ReachableStatesMeetR35 :
    (Reachable State.reset ∧ State.reset.busy = false ∧ State.reset.session = .uninit) ∧
      ∃ t, Reachable t ∧ t.cs = true ∧ t.busy = true ∧ t.session = .initializing ∧ t.upc = 0x04#8 :=
  ⟨⟨.reset [] [] 0, rfl, rfl⟩,
    ⟨_, reachable_runSteps (n := 5) (.reset [present 0b00#2 0#16] [] 0) rfl, rfl, rfl, rfl, rfl⟩⟩

/-- R35 (d), (e): given that INIT runs to READY, a state in READY with DONE set is reachable. -/
theorem witness_ReachableStatesMeetR35_ready (h : Obligations.InitRunsToReady) :
    ∃ t, Reachable t ∧ t.session = .ready ∧ t.done = true :=
  ⟨_, reachable_runSteps (.reset [present 0b00#2 0#16] [] 0)
    (h bootStart 0#16 (inv_fresh _ []) rfl rfl rfl (quiet_of_all (fun _ => present_not_reset) _)), rfl, rfl⟩

/-! ## Witnesses: the tick level -/

/-- A wait of 1 µs and a tick count that is long enough for it. -/
theorem witness_WaitsNeverFallShort : 1 * Config.clkHz ≤ Config.clkHz * 1000000 ∧ 1 ≤ 1 := ⟨by omega, Nat.le_refl 1⟩

/-- A micro-operation of one tick, a transfer, and an idle edge with and without a command. -/
theorem witness_TicksRefineTheStep :
    (∃ (s : State) (ps : List Ports), s.busy = true ∧ s.tph = 0 ∧ fetch s = .ok .csd ∧
      duration .csd ≤ 2 ^ Config.wcntW ∧ ps.length = duration .csd ∧ ∀ p ∈ ps, p.rst = false) ∧
    (∃ (s : State) (ps : List Ports), s.busy = true ∧ s.tph = 0 ∧ fetch s = .ok (.txi .rdval 0#8) ∧
      duration (.txi .rdval 0#8) ≤ 2 ^ Config.wcntW ∧ ps.length = duration (.txi .rdval 0#8) ∧
      ∀ p ∈ ps, p.rst = false) ∧
    (ready.busy = false ∧ (present 0b11#2 0#16).rst = false ∧ (present 0b11#2 0#16).cmdValid = true) ∧
    (Ports.idle.rst = false ∧ Ports.idle.cmdValid = false) := by
  refine ⟨⟨booting 0x02#8, [present 0b11#2 0#16], rfl, rfl, rfl, phase_zero_fits, rfl, fun _ => present_not_reset⟩,
    ⟨selected (booting 0x49#8), List.replicate transferTicks Ports.idle, rfl, rfl, rfl,
      Nat.le_of_lt transferTicks_fits, List.length_replicate, ?_⟩, ⟨rfl, rfl, rfl⟩, ⟨rfl, rfl⟩⟩
  intro p hp
  rw [(List.mem_replicate.mp hp).2]
  rfl

/-- The first and the last tick of a transfer; a wait; an idle block. -/
theorem witness_TransferWaveform :
    (∃ s : State, s.busy = true ∧ fetch s = .ok (.txi .rdval 0#8) ∧ isTransfer (.txi .rdval 0#8) = true ∧
      s.tph = 2 * 0 * Config.sckHalf + 0 ∧ 0 < 2 * Config.sckHalf) ∧
    (∃ s : State, s.busy = true ∧ fetch s = .ok (.txi .rdval 0#8) ∧
      s.tph = 2 * 7 * Config.sckHalf + (2 * Config.sckHalf - 1) ∧ 2 * Config.sckHalf - 1 < 2 * Config.sckHalf) ∧
    ready.busy = false ∧ fetch (booting 0x0A#8) = .ok (.waitu 100#12) ∧ isTransfer (.waitu 100#12) = false := by
  have hp : 0 < 2 * Config.sckHalf := Nat.mul_pos (by decide) sckHalf_pos
  refine ⟨⟨selected (booting 0x49#8), rfl, rfl, rfl, ?_, hp⟩,
    ⟨{ selected (booting 0x49#8) with tph := 2 * 7 * Config.sckHalf + (2 * Config.sckHalf - 1) }, rfl, rfl, rfl,
      Nat.sub_lt hp Nat.one_pos⟩, rfl, rfl, rfl⟩
  simp [selected, booting, serving, ready, State.reset]

/-- The other three transfers where the micro-program has them (0x42, 0x60, 0x4F), and a state in which one goes on. -/
theorem witness_TransferWaveform_kinds :
    (selected (booting 0x42#8)).busy = true ∧ fetch (selected (booting 0x42#8)) = .ok .txf ∧
      fetch (selected (serving 0x60#8)) = .ok .txr ∧ fetch (selected (booting 0x4F#8)) = .ok (.txm 0xF0#8) ∧
      decodeW16 0x5000#16 = .ok (.txi .none 0#8) ∧ decodeW16 0x80FF#16 = .ok (.txm 0xFF#8) ∧
      decodeW16 0x9001#16 = .ok (.waitu 1#12) ∧ ∃ t, exec .txr (selected (serving 0x60#8)) = .next t :=
  ⟨rfl, rfl, rfl, rfl, rfl, rfl, rfl, _, rfl⟩

theorem witness_PinsShowTheRegisters : (selected ready).cs = true ∧ ready.cs = false := ⟨rfl, rfl⟩

/-- R272: select is driven low while asserted and high otherwise (CS_ACTIVE = 0). -/
theorem test_pins_select :
    (pins (selected (serving 0x60#8))).ncs = false ∧ (pins (selected (serving 0x60#8))).ncsOe = true ∧
      (pins (selected (serving 0x60#8))).cmdReady = false ∧ (pins ready).ncs = true := by decide

/-- Each of the four commands in the session that admits it. -/
theorem witness_CommandLatency :
    (Inv State.reset ∧ State.reset.busy = false ∧ admitted 0b00#2 State.reset.session = true) ∧
    (Inv ready ∧ ready.busy = false ∧ admitted 0b01#2 ready.session = true ∧ admitted 0b10#2 ready.session = true ∧
      admitted 0b11#2 ready.session = true) ∧
    ∀ op, ∃ ps : List Ports, ps.length = latency op ∧ ∀ p ∈ ps, p.rst = false := by
  refine ⟨⟨inv_fresh [] [], rfl, rfl⟩, ⟨inv_ready [] [], rfl, rfl, rfl, rfl⟩, fun op => ?_⟩
  refine ⟨List.replicate (latency op) Ports.idle, List.length_replicate, fun p hp => ?_⟩
  rw [(List.mem_replicate.mp hp).2]
  rfl

end Sys2Proof.Tests
end

/-! ## Proofs: the time base (spec/00_scope.md R7)

`ticksUs` is the library's rounded-up division, so the laws of that division say that a wait never falls short and is
no longer than it must be. -/

namespace Sys2Proof.Machine

/-- Quotient and remainder written out in the model are one rounded-up division. -/
theorem ticksUs_eq_ceilDiv (d : Nat) : ticksUs d = d * Config.clkHz ⌈/⌉ 1000000 := by
  rw [Nat.ceilDiv_eq_add_pred_div, ticksUs]
  split <;> omega

/-- This one equivalence says both that `ticksUs d` is long enough and that no smaller count is. -/
theorem ticksUs_le_iff (d k : Nat) : ticksUs d ≤ k ↔ d * Config.clkHz ≤ k * 1000000 := by
  rw [ticksUs_eq_ceilDiv, ceilDiv_le_iff_le_mul (by decide), Nat.mul_comm k]

theorem ticksUs_long_enough (d : Nat) : d * Config.clkHz ≤ ticksUs d * 1000000 :=
  (ticksUs_le_iff d (ticksUs d)).mp le_rfl

/-- No ticks last no time, and the clock does run (R6), so a wait of `d ≥ 1` needs a tick. -/
theorem ticksUs_pos {d : Nat} (hd : 1 ≤ d) : 1 ≤ ticksUs d := by
  have htime : 0 < d * Config.clkHz := Nat.mul_pos hd clkHz_pos
  have hlong := ticksUs_long_enough d
  omega

/-- The ticks of a wait at a clock of known frequency, in numbers that evaluate. -/
theorem ticksUs_of_clkHz {f : Nat} (hf : Config.clkHz = f) (d : Nat) : ticksUs d = d * f ⌈/⌉ 1000000 :=
  hf ▸ ticksUs_eq_ceilDiv d

/-- Settles O52: `ticksUs` is the least tick count that is long enough, and the examples of R7 are evaluated from it. -/
theorem waitsNeverFallShort : Obligations.WaitsNeverFallShort := by
  refine ⟨ticksUs_long_enough, fun d k => (ticksUs_le_iff d k).mpr, fun _ => ticksUs_pos, fun _ => ⟨rfl, rfl⟩,
    fun hf => ?_, fun hf => ?_, fun hf => ⟨?_, ?_⟩⟩
  all_goals exact (ticksUs_of_clkHz hf _).trans (by decide)

end Sys2Proof.Machine

/-! ## Proofs: the fetched micro-program (spec/30_encoding.md R104)

The fixed micro-program is the assembly of `listing`: its words are the encodings of the listed operations, so what a
running command fetches is the listed operation at its address. -/

namespace Sys2Proof.Machine

open Sys2Proof.Laws

/-- The round trip of the single operations, gathered. -/
theorem decode_encode (i : Instr) (h : WellFormed i = true) : decode (encode i) = .ok i := by
  cases i with
  | init => exact RoundTrip.init h
  | getConfig => exact RoundTrip.getConfig h
  | setConfig n => exact RoundTrip.setConfig n h
  | getReport => exact RoundTrip.getReport h
  | buscfg => exact RoundTrip.buscfg h
  | csout => exact RoundTrip.csout h
  | csa => exact RoundTrip.csa h
  | csd => exact RoundTrip.csd h
  | txi dst imm => exact RoundTrip.txi dst imm h
  | txf => exact RoundTrip.txf h
  | txr => exact RoundTrip.txr h
  | txm mask => exact RoundTrip.txm mask h
  | waitu n => exact RoundTrip.waitu n h
  | waitm n => exact RoundTrip.waitm n h
  | fwz => exact RoundTrip.fwz h
  | fwbr t => exact RoundTrip.fwbr t h
  | fwnx t => exact RoundTrip.fwnx t h
  | aluDiv200 => exact RoundTrip.aluDiv200 h
  | aluMul200 => exact RoundTrip.aluMul200 h
  | aluDec16 => exact RoundTrip.aluDec16 h
  | fin0 => exact RoundTrip.fin0 h
  | fin1 => exact RoundTrip.fin1 h
  | reservedOp0 low => exact RoundTrip.reservedOp0 low h
  | wr a src => exact RoundTrip.wr a src h
  | rd a dst => exact RoundTrip.rd a dst h
  | singleWrite a v => exact RoundTrip.singleWrite a v h
  | singleRead a => exact RoundTrip.singleRead a h
  | burstWrite => exact RoundTrip.burstWrite h
  | burstRead => exact RoundTrip.burstRead h

/-- Word by word, the micro-program is the encoding of the listing (R104). -/
theorem microWords_eq_listing : microWords.map Encoded.w16 = listing.map encode := rfl

theorem listing_wellFormed : listing.all WellFormed = true := by decide

theorem listing_length : listing.length = 113 := by decide

/-- The word at a listed address decodes to the listed operation. -/
theorem decodeW16_romWord {a : Nat} {i : Instr} (hi : listing[a]? = some i) : decodeW16 (romWord a) = .ok i := by
  have hword : (microWords.map Encoded.w16)[a]? = some (encode i) := by
    rw [microWords_eq_listing, List.getElem?_map, hi]
    rfl
  obtain ⟨w, hw, hencode⟩ := Option.map_eq_some_iff.mp (List.getElem?_map .. ▸ hword)
  have hrom : romWord a = w := by rw [romWord, List.getD_eq_getElem?_getD, hw]; rfl
  have hdecode := decode_encode i (List.all_eq_true.mp listing_wellFormed i (List.mem_of_getElem? hi))
  rwa [← hencode, ← hrom] at hdecode

theorem fetch_listing {s : State} {i : Instr} (hrom : s.urom = []) (hi : listing[s.upc.toNat]? = some i) :
    fetch s = .ok i := (fetch_rom hrom).trans (decodeW16_romWord hi)

end Sys2Proof.Machine

/-! ## Proofs: every step keeps the invariant (spec/10_state.md R28, R34, R35)

The invariant speaks of the control registers alone (`State.control`), so each micro-operation is first reduced to what
it does to them. Whether that keeps the invariant depends on the address and the operation only, by `fits`, which is
decided once over the listing. `Edge` then says what one step from a state of the invariant can be. -/

namespace Sys2Proof.Machine

/-! ### The control registers -/

/-- The registers the invariant speaks of; every other field at its reset value. -/
def State.control (s : State) : State :=
  { State.reset with
    session := s.session, busy := s.busy, done := s.done, upc := s.upc, fwIdx := s.fwIdx, tph := s.tph
    busCfg := s.busCfg, csOe := s.csOe, cs := s.cs, urom := s.urom, slot := s.slot }

theorem Running.of_control {s : State} (h : Running s.control) : Running s := { h with }

theorem Running.control {s : State} (h : Running s) : Running s.control := { h with }

/-- The invariant holds alike in states with the same control registers. -/
theorem Inv.congr {s t : State} (h : Inv s) (hc : s.control = t.control) : Inv t := by
  have hs : Inv s.control :=
    { h with
      running := fun hb => (h.running hb).control
      idle := fun hb => { h.idle hb with } }
  rw [hc] at hs
  exact { hs with
    running := fun hb => (hs.running hb).of_control
    idle := fun hb => { hs.idle hb with } }

theorem inv_sampled {s : State} (h : Inv s) : Inv (sampled s) := h.congr rfl

/-- What a transfer does to the control registers is to pass to the next word. -/
theorem transfer_control {dst : Dst} {tx : Byte} {s t : State} (h : transfer dst tx s = .next t) :
    (advance s).control = t.control := by
  obtain ⟨-, -, rfl⟩ := transfer_eq_next.mp h
  cases dst <;> rfl

/-! ### Which word stands where -/

/-- An address from which the next word is in the same routine, with the bus and the pin set up and no bound on the
firmware index to be met anew. -/
def ordinary (a : Nat) : Bool := 2 ≤ a && a < 0x70 && !(a ∈ [0x3D, 0x41, 0x44, initEnd])

/-- The operation at an address keeps the facts of `Running`, or ends its command where it may. -/
def fits (a : Nat) : Instr → Bool
  | .buscfg => a == 0
  | .csout => a == 1
  | .csa => ordinary a && !selectedAt a && selectedAt (a + 1)
  | .csd => ordinary a && !selectedAt (a + 1)
  | .txi _ _ | .txr | .txm _ => ordinary a && selectedAt a && selectedAt (a + 1)
  | .txf => a == 0x42
  | .waitu _ | .waitm _ | .aluDiv200 | .aluMul200 | .aluDec16 => ordinary a && selectedAt a == selectedAt (a + 1)
  | .fwz => a == 0x3D
  | .fwbr t => a == 0x41 && t == 0x45#8
  | .fwnx t => a == 0x44 && t == 0x41#8
  | .fin0 => decide (initEnd < a) && !selectedAt a
  | .fin1 => a == initEnd
  | .init | .getConfig | .setConfig _ | .getReport | .reservedOp0 _ => false
  | .wr _ _ | .rd _ _ | .singleWrite _ _ | .singleRead _ | .burstWrite | .burstRead => false

theorem listing_fits : listing.zipIdx.all (fun p => fits p.2 p.1) = true := by decide

theorem ordinary_iff {a : Nat} :
    ordinary a = true ↔ 2 ≤ a ∧ a < 0x70 ∧ a ≠ 0x3D ∧ a ≠ 0x41 ∧ a ≠ 0x44 ∧ a ≠ 0x54 := by
  simp [ordinary, initEnd, and_assoc]

/-- A running command of the invariant fetches an operation that fits its address. -/
theorem Inv.fetches {s : State} (h : Inv s) (hb : s.busy = true) :
    ∃ i, fetch s = .ok i ∧ fits s.upc.toNat i = true := by
  have hlt : s.upc.toNat < listing.length := by
    have hrange := (h.running hb).range
    rw [listing_length]
    omega
  have hi := List.getElem?_eq_getElem hlt
  exact ⟨_, fetch_listing h.rom hi, List.all_eq_true.mp listing_fits _ (List.mk_mem_zipIdx_iff_getElem?.mpr hi)⟩

/-! ### A word that does not end its command -/

/-- Same command, another word: the invariant still holds and the session has not moved. -/
structure GoesOn (s t : State) : Prop where
  notLast : s.upc.toNat ≠ initEnd
  inv : Inv t
  busy : t.busy = true
  session : t.session = s.session

theorem GoesOn.congr {s t u : State} (h : GoesOn s u) (hc : u.control = t.control) : GoesOn s t where
  notLast := h.notLast
  inv := h.inv.congr hc
  busy := (congrArg State.busy hc).symm.trans h.busy
  session := (congrArg State.session hc).symm.trans h.session

/-- The command ends, by `FIN 1` at the end of INIT or by `FIN 0` in READY; either way the session is READY after it. -/
structure Ends (s t : State) : Prop where
  last : s.upc.toNat = initEnd ∨ s.session = .ready
  inv : Inv t
  result : t = { s with session := .ready, busy := false, done := true }

theorem upc_add_one {u : Byte} (h : u.toNat ≤ 0x70) : (u + 1#8).toNat = u.toNat + 1 := by
  rw [BitVec.toNat_add]
  exact Nat.mod_eq_of_lt (by simp; omega)

/-- The bus and the pin are set up once the first two words are past (R120, R121). -/
theorem Running.configured_driven {s : State} (h : Running s) (ha : 1 < s.upc.toNat) :
    s.busCfg = true ∧ s.csOe = true :=
  ⟨h.configured.trans (decide_eq_true (by omega)), h.driven.trans (decide_eq_true ha)⟩

/-- Where the firmware index stands at an address (R163, R165). -/
def IndexFits (a k : Nat) : Prop :=
  (0x3E ≤ a → a ≤ 0x41 → k ≤ Config.fwLen) ∧ (0x42 ≤ a → a ≤ 0x44 → k < Config.fwLen) ∧
    (0x45 ≤ a → a ≤ 0x54 → k = Config.fwLen)

theorem Running.indexFits {s : State} (h : Running s) : IndexFits s.upc.toNat s.fwIdx :=
  ⟨h.index, h.inImage, h.imageSent⟩

section
variable {s : State} (h : Inv s) (hb : s.busy = true)
include h hb

/-- Where a word changes only the registers named, `Running` after it is all there is to show. -/
theorem goesOn_of_running {t : State} (hlast : s.upc.toNat ≠ initEnd)
    (ht : t = { s with upc := t.upc, cs := t.cs, busCfg := t.busCfg, csOe := t.csOe, fwIdx := t.fwIdx })
    (hk : t.fwIdx < 2 ^ Config.fwAw) (hr : Running t) : GoesOn s t := by
  have hbusy : t.busy = true := ht ▸ hb
  exact
    { notLast := hlast
      busy := hbusy
      session := by rw [ht]
      inv :=
        { rom := by rw [ht]; exact h.rom
          slot := by rw [ht]; exact h.slot
          idxWidth := hk
          tphWidth := by rw [ht]; exact h.tphWidth
          doneIdle := by rw [ht]; exact h.doneIdle
          running := fun _ => hr
          idle := fun hi => absurd (hbusy.symm.trans hi) (by decide) } }

/-- The next word, with select at `c`, from an ordinary address. -/
theorem goesOn_advance (ha : ordinary s.upc.toNat = true) {c : Bool} (hc : c = selectedAt (s.upc.toNat + 1)) :
    GoesOn s (advance { s with cs := c }) := by
  have hr := h.running hb
  obtain ⟨hlow, hhigh, hz, hbr, hnx, hend⟩ := ordinary_iff.mp ha
  have hupc := upc_add_one hr.range
  have hbooting := hr.booting
  have hserving := hr.serving
  have hindex := hr.indexFits
  unfold IndexFits at hindex
  simp only [initEnd] at hbooting hserving
  refine goesOn_of_running h hb hend rfl h.idxWidth ?_
  constructor <;>
    simp only [advance_upc, hupc, initEnd, advance_cs, advance_busCfg, advance_csOe, advance_fwIdx, advance_session]
  · omega
  · exact fun _ => hbooting (by omega)
  · exact fun _ => hserving (by omega)
  · exact hc
  · exact hr.configured.trans (decide_eq_decide.mpr (by omega))
  · exact hr.driven.trans (decide_eq_decide.mpr (by omega))
  all_goals omega

/-- From the word of INIT at `a` to the one at `b`, with every register as `Running` wants it at `b`. -/
theorem goesOn_boot {t : State} {a b : Nat} (ha : s.upc.toNat = a) (hinit : a < initEnd)
    (ht : t = { s with upc := t.upc, cs := t.cs, busCfg := t.busCfg, csOe := t.csOe, fwIdx := t.fwIdx })
    (hupc : t.upc.toNat = b) (hend : b ≤ initEnd) (hcs : t.cs = selectedAt b) (hcfg : t.busCfg = decide (0 < b))
    (hoe : t.csOe = decide (1 < b)) (hk : t.fwIdx < 2 ^ Config.fwAw) (hidx : IndexFits b t.fwIdx) : GoesOn s t := by
  subst ha hupc
  have hsession : t.session = .initializing := by rw [ht]; exact (h.running hb).booting hinit.le
  obtain ⟨hindex, hinImage, himageSent⟩ := hidx
  exact goesOn_of_running h hb hinit.ne ht hk
    { range := hend.trans (by decide), booting := fun _ => hsession, serving := fun hlt => absurd hend (by omega)
      select := hcs, configured := hcfg, driven := hoe
      index := hindex, inImage := hinImage, imageSent := himageSent }

theorem goesOn_buscfg (ha : s.upc.toNat = 0) : GoesOn s (advance { s with busCfg := true }) := by
  have hr := h.running hb
  refine goesOn_boot h hb ha (by decide) rfl (b := 1) ?_ (by decide) ?_ rfl ?_ h.idxWidth ?_
  · exact (upc_add_one hr.range).trans (by rw [ha])
  · exact hr.select.trans (by rw [ha]; decide)
  · exact hr.driven.trans (by rw [ha]; rfl)
  · unfold IndexFits; omega

theorem goesOn_csout (ha : s.upc.toNat = 1) : GoesOn s (advance { s with csOe := true }) := by
  have hr := h.running hb
  refine goesOn_boot h hb ha (by decide) rfl (b := 2) ?_ (by decide) ?_ ?_ rfl h.idxWidth ?_
  · exact (upc_add_one hr.range).trans (by rw [ha])
  · exact hr.select.trans (by rw [ha]; decide)
  · exact hr.configured.trans (by rw [ha]; rfl)
  · unfold IndexFits; omega

/-- A word of the firmware loop moves within INIT and may set the index, with the bus and select as they are. -/
theorem goesOn_loop {u : Byte} {a b k : Nat} (ha : s.upc.toNat = a) (hinit : 1 < a ∧ a < initEnd) (hu : u.toNat = b)
    (hend : 1 < b ∧ b ≤ initEnd) (hsel : selectedAt a = selectedAt b) (hk : k < 2 ^ Config.fwAw)
    (hidx : IndexFits b k) : GoesOn s { s with upc := u, fwIdx := k } := by
  have hr := h.running hb
  refine goesOn_boot h hb ha hinit.2 rfl hu hend.2 ?_ ?_ ?_ hk hidx
  · exact hr.select.trans (ha ▸ hsel)
  · exact hr.configured.trans (decide_eq_decide.mpr (by omega))
  · exact hr.driven.trans (decide_eq_decide.mpr (by omega))

theorem goesOn_fwz (ha : s.upc.toNat = 0x3D) : GoesOn s (advance { s with fwIdx := 0 }) := by
  refine goesOn_loop h hb ha (by decide) (b := 0x3E) ?_ (by decide) (by decide) index_zero_fits ?_
  · exact (upc_add_one (h.running hb).range).trans (by rw [ha])
  · exact ⟨fun _ _ => Nat.zero_le _, by omega, by omega⟩

/-- `FWBR` leaves the loop with the index at the end of the image, and enters its body with the index inside. -/
theorem goesOn_fwbr (ha : s.upc.toNat = 0x41) :
    GoesOn s (if s.fwIdx = Config.fwLen then jump 0x45#8 s else advance s) := by
  have hr := h.running hb
  split
  · rename_i hsent
    refine goesOn_loop h hb ha (by decide) (b := 0x45) rfl (by decide) (by decide) h.idxWidth ?_
    unfold IndexFits; omega
  · rename_i hleft
    refine goesOn_loop h hb ha (by decide) (b := 0x42) ?_ (by decide) (by decide) h.idxWidth ?_
    · exact (upc_add_one hr.range).trans (by rw [ha])
    · have hle := hr.index (by omega) (by omega)
      unfold IndexFits; omega

/-- `FWNX` goes back to the test of the loop, with the index still at most at the end of the image. -/
theorem goesOn_fwnx (ha : s.upc.toNat = 0x44) : GoesOn s (jump 0x41#8 (nextIndex s)) := by
  have hlt := (h.running hb).inImage (by omega) (by omega)
  have hle : (s.fwIdx + 1) % 2 ^ Config.fwAw ≤ Config.fwLen := (Nat.mod_le _ _).trans hlt
  refine goesOn_loop h hb ha (by decide) (b := 0x41) rfl (by decide) (by decide) (hle.trans_lt fwLen_lt_two_pow) ?_
  exact ⟨fun _ _ => hle, by omega, by omega⟩

/-- `FIN` at an address past the set-up of the bus, with select inactive. -/
theorem ends_finish (ha : 1 < s.upc.toNat) (hsel : selectedAt s.upc.toNat = false)
    (hlast : s.upc.toNat = initEnd ∨ s.session = .ready) :
    ∃ t, finish .ready s = .next t ∧ Ends s t := by
  have hr := h.running hb
  have hcs : s.cs = false := hr.select.trans hsel
  refine ⟨_, finish_eq_next.mpr ⟨hcs, rfl⟩, hlast, ?_, rfl⟩
  exact
    { h with
      doneIdle := fun _ => rfl
      running := fun hrun => nomatch hrun
      idle := fun _ => ⟨hcs, (fun he => nomatch he), (fun he => nomatch he), fun _ => hr.configured_driven ha⟩ }

/-- The four transfers go on where select is asserted and stays so. -/
theorem goesOn_transfer (dst : Dst) (tx : Byte) (ha : ordinary s.upc.toNat = true)
    (hsel : selectedAt s.upc.toNat = true) (hnext : selectedAt (s.upc.toNat + 1) = true) :
    ∃ t, transfer dst tx s = .next t ∧ GoesOn s t := by
  have hr := h.running hb
  have hcs : s.cs = true := hr.select.trans hsel
  have hcfg := (hr.configured_driven (ordinary_iff.mp ha).1).1
  have ht := transfer_ok hcs hcfg dst tx
  exact ⟨_, ht, (goesOn_advance h hb ha (hcs.trans hnext.symm)).congr (transfer_control ht)⟩

/-- An operation that touches neither the bus nor the index goes on. -/
theorem goesOn_plain {t : State} (ha : ordinary s.upc.toNat = true)
    (hsel : selectedAt s.upc.toNat = selectedAt (s.upc.toNat + 1)) (hc : (advance s).control = t.control) :
    GoesOn s t :=
  (goesOn_advance h hb ha ((h.running hb).select.trans hsel)).congr hc

/-- An operation that fits its address executes, and goes on or ends its command. -/
theorem exec_of_fits {i : Instr} (hf : fits s.upc.toNat i = true) :
    ∃ t, exec i s = .next t ∧ (GoesOn s t ∨ Ends s t) := by
  have hr := h.running hb
  cases i with simp only [fits, Bool.and_eq_true, Bool.not_eq_true', beq_iff_eq, decide_eq_true_eq] at hf
  | buscfg => exact ⟨_, rfl, .inl ((goesOn_buscfg h hb hf).congr rfl)⟩
  | csout => exact ⟨_, rfl, .inl ((goesOn_csout h hb hf).congr rfl)⟩
  | csa =>
    obtain ⟨⟨ha, hsel⟩, hnext⟩ := hf
    obtain ⟨hcfg, hoe⟩ := hr.configured_driven (ordinary_iff.mp ha).1
    exact ⟨_, selectAssert_ok hoe hcfg (hr.select.trans hsel), .inl ((goesOn_advance h hb ha hnext.symm).congr rfl)⟩
  | csd =>
    obtain ⟨ha, hnext⟩ := hf
    exact ⟨_, rfl, .inl ((goesOn_advance h hb ha hnext.symm).congr rfl)⟩
  | txi dst imm =>
    obtain ⟨⟨ha, hsel⟩, hnext⟩ := hf
    obtain ⟨t, ht, hgo⟩ := goesOn_transfer h hb dst imm ha hsel hnext
    exact ⟨t, ht, .inl hgo⟩
  | txf =>
    have hlt := hr.inImage (by omega) (by omega)
    obtain ⟨t, ht, hgo⟩ := goesOn_transfer h hb .none (Config.fw s.fwIdx) (by rw [hf]; decide) (by rw [hf]; decide)
      (by rw [hf]; decide)
    exact ⟨t, transferFirmware_eq_next.mpr ⟨hlt, ht⟩, .inl hgo⟩
  | txr =>
    obtain ⟨⟨ha, hsel⟩, hnext⟩ := hf
    obtain ⟨t, ht, hgo⟩ := goesOn_transfer h hb .none s.raw ha hsel hnext
    exact ⟨t, ht, .inl hgo⟩
  | txm mask =>
    obtain ⟨⟨ha, hsel⟩, hnext⟩ := hf
    obtain ⟨t, ht, hgo⟩ := goesOn_transfer h hb .none (s.rdval &&& mask) ha hsel hnext
    exact ⟨t, ht, .inl hgo⟩
  | waitu n => exact ⟨_, rfl, .inl (goesOn_plain h hb hf.1 hf.2 rfl)⟩
  | waitm n => exact ⟨_, rfl, .inl (goesOn_plain h hb hf.1 hf.2 rfl)⟩
  | aluDiv200 => exact ⟨_, rfl, .inl (goesOn_plain h hb hf.1 hf.2 rfl)⟩
  | aluMul200 => exact ⟨_, rfl, .inl (goesOn_plain h hb hf.1 hf.2 rfl)⟩
  | aluDec16 => exact ⟨_, rfl, .inl (goesOn_plain h hb hf.1 hf.2 rfl)⟩
  | fwz => exact ⟨_, rfl, .inl (goesOn_fwz h hb hf)⟩
  | fwbr t =>
    obtain ⟨ha, rfl⟩ := hf
    exact ⟨_, rfl, .inl (goesOn_fwbr h hb ha)⟩
  | fwnx t =>
    obtain ⟨ha, rfl⟩ := hf
    exact ⟨_, rfl, .inl (goesOn_fwnx h hb ha)⟩
  | fin0 =>
    obtain ⟨ha, hsel⟩ := hf
    have hready := hr.serving ha
    obtain ⟨t, ht, hend⟩ := ends_finish h hb ((by decide : 1 < initEnd).trans ha) hsel (.inr hready)
    exact ⟨t, (congrArg (finish · s) hready).trans ht, .inr hend⟩
  | fin1 =>
    obtain ⟨t, ht, hend⟩ := ends_finish h hb (by rw [hf]; decide) (by rw [hf]; decide) (.inl hf)
    exact ⟨t, ht, .inr hend⟩
  | _ => exact absurd hf (by decide)

end

end Sys2Proof.Machine

/-! ## Proofs: the session lifecycle, R35 in every reachable state, and the reset values -/

namespace Sys2Proof.Machine

theorem admitted_iff {op : BitVec 2} {n : Session} :
    admitted op n = true ↔ (n = .uninit ∧ op = 0b00#2) ∨ (n = .ready ∧ op ≠ 0b00#2) := by
  cases n <;> simp [admitted]

/-- The routines of READY start past the end of INIT, at an address with select inactive (R203, R104). -/
theorem entry_of_ready {op : BitVec 2} (h : op ≠ 0b00#2) :
    initEnd < (entryAddress op).toNat ∧ (entryAddress op).toNat ≤ 0x70 ∧
      selectedAt (entryAddress op).toNat = false := by
  revert op; decide

/-! ### The edges that execute no word keep the invariant -/

theorem inv_resetEdge {s : State} (hrom : s.urom = []) : Inv (resetEdge s) where
  rom := hrom
  slot := rfl
  idxWidth := index_zero_fits
  tphWidth := phase_zero_fits
  doneIdle := fun _ => rfl
  running := fun hb => nomatch hb
  idle := fun _ => ⟨rfl, (fun he => nomatch he), (fun _ => ⟨rfl, rfl⟩), (fun he => nomatch he)⟩

/-- The first word of an accepted command meets the facts of `Running`: the command admitted in UNINIT starts at 0x00
with the bus not set up, the ones admitted in READY past INIT with it set up. -/
theorem running_accept {s : State} (hidle : Idle s) {op : BitVec 2} (ha : admitted op s.session = true) (n : Half) :
    Running (accept op n s) := by
  rcases admitted_iff.mp ha with ⟨hs, rfl⟩ | ⟨hs, hop⟩
  · obtain ⟨hcfg, hoe⟩ := hidle.fresh hs
    exact
      { range := Nat.zero_le _, booting := fun _ => rfl, serving := fun hlt => nomatch hlt
        select := hidle.deselected, configured := hcfg, driven := hoe
        index := fun hlo => (nomatch hlo)
        inImage := fun hlo => (nomatch hlo)
        imageSent := fun hlo => (nomatch hlo) }
  · obtain ⟨hcfg, hoe⟩ := hidle.ready hs
    obtain ⟨hlow, hhigh, hsel⟩ := entry_of_ready hop
    simp only [initEnd] at hlow
    exact
      { range := hhigh
        booting := fun hle => absurd hlow (Nat.not_lt.mpr hle)
        serving := fun _ => (if_neg hop).trans hs
        select := hidle.deselected.trans hsel.symm
        configured := hcfg.trans (decide_eq_true (Nat.zero_lt_of_lt hlow)).symm
        driven := hoe.trans (decide_eq_true (Nat.lt_trans (by decide) hlow)).symm
        index := fun _ hle => absurd hlow (by simp only [accept_upc] at hle; omega)
        inImage := fun _ hle => absurd hlow (by simp only [accept_upc] at hle; omega)
        imageSent := fun _ hle => absurd hlow (Nat.not_lt.mpr hle) }

theorem inv_accept {s : State} (h : Inv s) (hb : s.busy = false) {op : BitVec 2}
    (ha : admitted op s.session = true) (n : Half) : Inv (accept op n s) :=
  { h with
    tphWidth := phase_zero_fits
    doneIdle := fun hd => nomatch hd
    running := fun _ => running_accept (h.idle hb) ha n
    idle := fun hi => nomatch hi }

/-! ### What one step can be -/

/-- The step from `s` to `t`, by what its edge finds (R227). -/
inductive Edge (s : State) : State → Prop where
  /-- A reset edge. -/
  | reset (hp : (portsNow s).rst = true) : Edge s (resetEdge (sampled s))
  /-- A word that does not end the running command. -/
  | word {t : State} (hp : (portsNow s).rst = false) (hb : s.busy = true) (hgo : GoesOn (sampled s) t) : Edge s t
  /-- The `FIN` that ends the running command. -/
  | fin {t : State} (hp : (portsNow s).rst = false) (hb : s.busy = true) (hend : Ends (sampled s) t) : Edge s t
  /-- A presented command is accepted. -/
  | accept (hp : (portsNow s).rst = false) (hb : s.busy = false) (hv : (portsNow s).cmdValid = true)
      (ha : admitted (portsNow s).cmdOp s.session = true) (n : Half) :
      Edge s (accept (portsNow s).cmdOp n (sampled s))
  /-- A presented command is rejected. -/
  | reject (hp : (portsNow s).rst = false) (hb : s.busy = false) (hv : (portsNow s).cmdValid = true)
      (ha : admitted (portsNow s).cmdOp s.session = false) : Edge s { sampled s with err := true }
  /-- Nothing to do. -/
  | nothing (hp : (portsNow s).rst = false) (hb : s.busy = false) (hv : (portsNow s).cmdValid = false) :
      Edge s (sampled s)

/-- From a state of the invariant a step goes on, by one of these edges. -/
theorem Inv.step_edge {s : State} (h : Inv s) : ∃ t, step s = .next t ∧ Edge s t := by
  cases hp : (portsNow s).rst with
  | true => exact ⟨_, stepWith_reset hp _, .reset hp⟩
  | false =>
    cases hb : s.busy with
    | true =>
      obtain ⟨i, hfetch, hf⟩ := (inv_sampled h).fetches hb
      obtain ⟨t, ht, hout⟩ := exec_of_fits (inv_sampled h) hb hf
      refine ⟨t, (stepWith_busy (s := sampled s) hp h.slot hb).trans ((runWord_ok hfetch).trans ht), ?_⟩
      rcases hout with hgo | hend
      · exact .word hp hb hgo
      · exact .fin hp hb hend
    | false =>
      cases hv : (portsNow s).cmdValid with
      | false => exact ⟨_, stepWith_nothing hp h.slot hb hv, .nothing hp hb hv⟩
      | true =>
        obtain ⟨n, hexec, -⟩ := exec_decodeCommand (portsNow s).cmdOp (portsNow s).cmdCpi (sampled s)
        have hstep : step s = consumeCommand (portsNow s).cmdOp n (sampled s) :=
          (stepWith_command (s := sampled s) hp h.slot hb hv).trans hexec
        rcases consumeCommand_cases (portsNow s).cmdOp n (sampled s) with ⟨hb', -⟩ | ⟨-, ha, ht⟩ | ⟨-, ha, ht⟩
        · exact absurd (hb.symm.trans hb') (by decide)
        · exact ⟨_, hstep.trans ht, .accept hp hb hv ha n⟩
        · exact ⟨_, hstep.trans ht, .reject hp hb hv ha⟩

theorem Inv.edge_of_step {s t : State} (h : Inv s) (ht : step s = .next t) : Edge s t := by
  obtain ⟨u, hu, hedge⟩ := h.step_edge
  cases hu.symm.trans ht
  exact hedge

theorem inv_edge {s t : State} (h : Inv s) (he : Edge s t) : Inv t := by
  cases he with
  | reset _ => exact inv_resetEdge h.rom
  | word _ _ hgo => exact hgo.inv
  | fin _ _ hend => exact hend.inv
  | accept _ hb _ ha n => exact inv_accept (inv_sampled h) hb ha n
  | reject _ _ _ _ => exact h.congr rfl
  | nothing _ _ _ => exact (inv_sampled h)

/-- A step from a state of the invariant goes to one. -/
theorem inv_step {s t : State} (h : Inv s) (ht : step s = .next t) : Inv t := inv_edge h (h.edge_of_step ht)

theorem Reachable.inv {s : State} (h : Reachable s) : Inv s := by
  induction h with
  | reset inputs answers draws => exact (inv_resetEdge (s := State.reset) rfl).congr rfl
  | step s t _ ht ih => exact inv_step ih ht

/-! ### R35 from the invariant -/

/-- Select is asserted only past the set-up of the bus and the pin (R104). -/
theorem lt_of_selectedAt {a : Nat} (h : selectedAt a = true) : 3 < a := by
  simp only [selectedAt, List.any_eq_true, Bool.and_eq_true, decide_eq_true_eq] at h
  obtain ⟨p, hp, hlt, -⟩ := h
  have hfirst : 3 ≤ p.1 := (by decide : ∀ p ∈ selectSpans, 3 ≤ p.1) p hp
  omega

theorem Running.session_ne_uninit {s : State} (h : Running s) : s.session ≠ .uninit := by
  intro hs
  rcases Nat.lt_or_ge initEnd s.upc.toNat with hlt | hle
  · exact absurd (hs.symm.trans (h.serving hlt)) (by decide)
  · exact absurd (hs.symm.trans (h.booting hle)) (by decide)

theorem Running.past_init_of_ready {s : State} (h : Running s) (hs : s.session = .ready) : initEnd < s.upc.toNat :=
  Nat.lt_of_not_le fun hle => absurd (hs.symm.trans (h.booting hle)) (by decide)

theorem Inv.idle_of_uninit {s : State} (h : Inv s) (hs : s.session = .uninit) : s.busy = false :=
  Bool.eq_false_iff.mpr fun hb => (h.running hb).session_ne_uninit hs

/-- R28: INITIALIZING implies `BUSY = 1`. -/
theorem Inv.busy_of_initializing {s : State} (h : Inv s) (hs : s.session = .initializing) : s.busy = true := by
  cases hb : s.busy with
  | true => rfl
  | false => exact absurd hs (h.idle hb).settled

/-- R35 (b). -/
theorem Inv.flags_of_select {s : State} (h : Inv s) (hcs : s.cs = true) : s.csOe = true ∧ s.busCfg = true := by
  cases hb : s.busy with
  | true =>
    have hr := h.running hb
    have hlow := lt_of_selectedAt (hr.select.symm.trans hcs)
    exact (hr.configured_driven (by omega)).symm
  | false => exact absurd ((h.idle hb).deselected.symm.trans hcs) (by decide)

/-- R35 (d). -/
theorem Inv.flags_of_ready {s : State} (h : Inv s) (hs : s.session = .ready) : s.busCfg = true ∧ s.csOe = true := by
  cases hb : s.busy with
  | true =>
    have hr := h.running hb
    exact hr.configured_driven ((by decide : 1 < initEnd).trans (hr.past_init_of_ready hs))
  | false => exact (h.idle hb).ready hs

/-- Settles O48: the invariant holds of every reachable state, by induction over its run, and implies R35. -/
theorem reachableStatesMeetR35 : Obligations.ReachableStatesMeetR35 := by
  intro s hs
  have h := hs.inv
  refine ⟨fun hb => (h.idle hb).deselected, h.flags_of_select, fun hu => ?_, h.flags_of_ready, h.doneIdle, ?_,
    fun hb => (h.running hb).range⟩
  · have hb := h.idle_of_uninit hu
    obtain ⟨hcfg, hoe⟩ := (h.idle hb).fresh hu
    exact ⟨hcfg, hoe, (h.idle hb).deselected, hb⟩
  · cases s.session <;> decide

/-! ### The session -/

/-- The `FIN` met in INITIALIZING is the one at 0x54. -/
theorem Ends.upc_of_initializing {s t : State} (h : Ends s t) (hs : s.session = .initializing) : s.upc = 0x54#8 := by
  rcases h.last with hlast | hready
  · exact BitVec.eq_of_toNat_eq hlast
  · exact absurd (hs.symm.trans hready) (by decide)

section
variable {s t : State} (h : Inv s) (he : Edge s t) (hp : (portsNow s).rst = false)
include h he hp

/-- R28: without a reset the session stays but at the acceptance of INIT and at the `FIN 1` of INIT. -/
theorem Edge.session_cases :
    t.session = s.session ∨
      (s.session = .uninit ∧ t.session = .initializing ∧ s.busy = false ∧ t.busy = true ∧ t.upc = 0x00#8 ∧
        (portsNow s).cmdValid = true ∧ (portsNow s).cmdOp = 0b00#2) ∨
      (s.session = .initializing ∧ t.session = .ready ∧ s.busy = true ∧ t.busy = false ∧ s.upc = 0x54#8) := by
  cases he with
  | reset hp' => exact absurd (hp.symm.trans hp') (by decide)
  | word _ _ hgo => exact .inl hgo.session
  | fin _ hb hend =>
    have hready : t.session = .ready := by rw [hend.result]
    have hidle : t.busy = false := by rw [hend.result]
    cases hs : s.session with
    | uninit => exact absurd hs (h.running hb).session_ne_uninit
    | initializing => exact .inr (.inr ⟨rfl, hready, hb, hidle, hend.upc_of_initializing hs⟩)
    | ready => exact .inl hready
  | accept _ hb hv ha n =>
    rcases admitted_iff.mp ha with ⟨hs, hop⟩ | ⟨-, hop⟩
    · exact .inr (.inl ⟨hs, if_pos hop, hb, rfl, congrArg entryAddress hop, hv, hop⟩)
    · exact .inl (if_neg hop)
  | reject _ _ _ _ => exact .inl rfl
  | nothing _ _ _ => exact .inl rfl

/-- INIT presented in UNINIT is accepted. -/
theorem Edge.initializing_of_init (hs : s.session = .uninit) (hv : (portsNow s).cmdValid = true)
    (hop : (portsNow s).cmdOp = 0b00#2) : t.session = .initializing := by
  have hidle := h.idle_of_uninit hs
  cases he with
  | reset hp' => exact absurd (hp.symm.trans hp') (by decide)
  | word _ hb _ => exact absurd (hidle.symm.trans hb) (by decide)
  | fin _ hb _ => exact absurd (hidle.symm.trans hb) (by decide)
  | accept _ _ _ _ n => exact if_pos hop
  | reject _ _ _ ha => exact absurd (ha.symm.trans (admitted_iff.mpr (.inl ⟨hs, hop⟩))) (by decide)
  | nothing _ _ hv' => exact absurd (hv.symm.trans hv') (by decide)

/-- The word at 0x54 ends INIT. -/
theorem Edge.ready_of_initEnd (hs : s.session = .initializing) (hupc : s.upc = 0x54#8) : t.session = .ready := by
  have hbusy := h.busy_of_initializing hs
  cases he with
  | reset hp' => exact absurd (hp.symm.trans hp') (by decide)
  | word _ _ hgo => exact absurd (congrArg BitVec.toNat hupc) hgo.notLast
  | fin _ _ hend => rw [hend.result]
  | accept _ hb _ _ n => exact absurd (hbusy.symm.trans hb) (by decide)
  | reject _ hb _ _ => exact absurd (hbusy.symm.trans hb) (by decide)
  | nothing _ hb _ => exact absurd (hbusy.symm.trans hb) (by decide)

end

/-- Settles O40: the edges of `Edge`, by what they do to the session. -/
theorem sessionLifecycle : Obligations.SessionLifecycle := by
  refine ⟨⟨rfl, rfl, rfl⟩, fun s t h ht => ⟨fun hp => ?_, fun hp => ?_, h.busy_of_initializing⟩⟩
  · cases (stepWith_reset hp (sampled s)).symm.trans ht
    rfl
  · have he := h.edge_of_step ht
    exact ⟨he.session_cases h hp, he.initializing_of_init h hp, he.ready_of_initEnd h hp⟩

/-! ### Reset values (R34) -/

/-- A clock edge with nothing to do (R200). -/
theorem tick_nothing {p : Ports} {s : State} (hp : p.rst = false) (hb : s.busy = false) (hv : p.cmdValid = false) :
    tick p s = .next s := by
  simp [tick, hp, hb, hv]

theorem reset_reg (r : Reg) : State.reset.reg r = 0 := by cases r <;> rfl

/-- Settles O43: the reset state is written out, and an idle block with nothing presented stays as it is. -/
theorem resetValues : Obligations.ResetValues :=
  ⟨reset_reg, rfl, rfl, fun _ hp hv => ⟨stepWith_nothing hp rfl rfl hv, tick_nothing hp rfl hv⟩⟩

end Sys2Proof.Machine

/-! ## Proofs: the dispatch of commands (spec/45_command_dispatch.md)

Consumption by an idle block is `accept` where the session admits the command, so each command's acceptance is `accept`
read at its `cmd_op`. -/

namespace Sys2Proof.Machine

open Sys2Proof.Laws

section
variable {op : BitVec 2} {s : State}

/-- R201: an idle block accepts what its session admits. -/
theorem consumeCommand_of_admitted (hb : s.busy = false) (ha : admitted op s.session = true) (n : Half) :
    consumeCommand op n s = .next (accept op n s) := by
  rcases consumeCommand_cases op n s with ⟨hb', -⟩ | ⟨-, -, haccept⟩ | ⟨-, ha', -⟩
  · exact absurd (hb.symm.trans hb') (by decide)
  · exact haccept
  · exact absurd (ha.symm.trans ha') (by decide)

/-- In READY that is every command but INIT (R222). -/
theorem consumeCommand_of_ready (hb : s.busy = false) (hs : s.session = .ready) (hop : op ≠ 0b00#2) (n : Half) :
    consumeCommand op n s = .next (accept op n s) :=
  consumeCommand_of_admitted hb (admitted_iff.mpr (.inr ⟨hs, hop⟩)) n

end

/-- Settles O28: each command is consumed by acceptance, whose writes at the four values of `cmd_op` are R201's. -/
theorem admittedCommandsAreAccepted : Obligations.AdmittedCommandsAreAccepted := by
  refine fun s hb => ⟨fun hs => ?init, fun hs => ⟨?getConfig, fun n => ?setConfig, ?getReport⟩⟩
  case init => exact consumeCommand_of_admitted hb (admitted_iff.mpr (.inl ⟨hs, rfl⟩)) 0#16
  case getConfig => exact consumeCommand_of_ready hb hs (by decide : 0b01#2 ≠ 0b00#2) 0#16
  case setConfig => exact consumeCommand_of_ready hb hs (by decide : 0b10#2 ≠ 0b00#2) n
  case getReport => exact consumeCommand_of_ready hb hs (by decide : 0b11#2 ≠ 0b00#2) 0#16

end Sys2Proof.Machine

/-! ## Proofs: rejection and `ERR` (spec/60_exceptions.md R221 to R223)

That `ERR` is sticky and that it blocks nothing is one law: to set `ERR` before an operation is to set it after. The
shapes operations are built from keep this law (`BlindToErr`), so it holds of every operation and every step without
reset, and both halves of R223 are read off it. -/

namespace Sys2Proof.Machine

/-! ### Rejection (R221) -/

/-- R221: an idle block rejects every command that is not admitted in its session. -/
theorem consumeCommand_of_not_admitted {op : BitVec 2} {s : State} (hb : s.busy = false)
    (ha : admitted op s.session = false) (n : Half) : consumeCommand op n s = .next { s with err := true } := by
  rcases consumeCommand_cases op n s with ⟨hb', -⟩ | ⟨-, ha', -⟩ | ⟨-, -, hreject⟩
  · exact absurd (hb.symm.trans hb') (by decide)
  · exact absurd (ha.symm.trans ha') (by decide)
  · exact hreject

/-- Settles O29: INIT is not admitted in READY nor another command in UNINIT (R222), and what is not admitted is
rejected. -/
theorem otherCommandsAreRejected : Obligations.OtherCommandsAreRejected := by
  refine fun s hb => ⟨fun hs => ?init, fun hs => ⟨?getConfig, fun n => ?setConfig, ?getReport⟩⟩
  case init => exact consumeCommand_of_not_admitted hb (congrArg (admitted 0b00#2) hs) 0#16
  case getConfig => exact consumeCommand_of_not_admitted hb (congrArg (admitted 0b01#2) hs) 0#16
  case setConfig => exact consumeCommand_of_not_admitted hb (congrArg (admitted 0b10#2) hs) n
  case getReport => exact consumeCommand_of_not_admitted hb (congrArg (admitted 0b11#2) hs) 0#16

/-! ### The law of `ERR` and what keeps it -/

/-- Setting `ERR` before `f` is the same as setting it after, by the model's own rejection; where `f` stops, it stops
alike. -/
def BlindToErr (f : State → Result) : Prop :=
  ∀ s : State, f { s with err := true } = andThen (f s) takeReject

namespace BlindToErr

/-- An update of the state that commutes with setting `ERR`. -/
theorem next {u : State → State} (hu : ∀ s : State, u { s with err := true } = { u s with err := true }) :
    BlindToErr fun s => .next (u s) :=
  fun s => congrArg Host.Outcome.next (hu s)

theorem fault (r : Fault) : BlindToErr fun _ => .fault r := fun _ => rfl

theorem andThen {f g : State → Result} (hf : BlindToErr f) (hg : BlindToErr g) :
    BlindToErr fun s => Machine.andThen (f s) g := by
  intro s
  show Machine.andThen (f { s with err := true }) g = Machine.andThen (Machine.andThen (f s) g) takeReject
  rw [hf s]
  cases f s with
  | next t => exact hg t
  | fault r => rfl
  | refused r => rfl

/-- Such an update may also come first. -/
theorem comp {f : State → Result} {u : State → State} (hf : BlindToErr f)
    (hu : ∀ s : State, u { s with err := true } = { u s with err := true }) : BlindToErr fun s => f (u s) :=
  fun s => (congrArg f (hu s)).trans (hf (u s))

/-- A choice that does not look at `ERR`. -/
theorem ite {c : State → Prop} [DecidablePred c] {f g : State → Result}
    (hc : ∀ s : State, c { s with err := true } ↔ c s) (hf : BlindToErr f) (hg : BlindToErr g) :
    BlindToErr fun s => if c s then f s else g s := by
  intro s
  by_cases h : c s
  · simpa only [if_pos h, if_pos ((hc s).mpr h)] using hf s
  · simpa only [if_neg h, if_neg (mt (hc s).mp h)] using hg s

theorem frame {ops : State → Result} (h : BlindToErr ops) : BlindToErr (frame ops) := by
  intro s
  show Machine.andThen (ops { s with err := true }) _ = Machine.andThen (Machine.andThen (ops s) _) takeReject
  rw [h s]
  cases ops s <;> rfl

section
variable {f : State → Result} {s t : State}

/-- The law of `f` at one state, from an operation it equals there with `ERR` as it is and with `ERR` set. -/
theorem law_of_eq {g : State → Result} (hg : BlindToErr g) (h : f s = g s)
    (h' : f { s with err := true } = g { s with err := true }) :
    f { s with err := true } = Machine.andThen (f s) takeReject := by
  rw [h', h, hg s]

/-- The law's first reading: no `f` under it clears `ERR`. -/
theorem err_of_next (h : BlindToErr f) (ht : f s = .next t) (he : s.err = true) : t.err = true := by
  have hs : { s with err := true } = s := by rw [← he]
  have hlaw := h s
  rw [hs, ht] at hlaw
  exact congrArg State.err (Host.Outcome.next.inj hlaw)

/-- Its second reading: where `f` goes on, it goes on with `ERR` set, to the same state but for `ERR`. -/
theorem next_of_next (h : BlindToErr f) (ht : f s = .next t) :
    f { s with err := true } = .next { t with err := true } := by
  rw [h s, ht]
  rfl

/-- Its third reading: where `f` stops, it stops alike with `ERR` set. -/
theorem fault_of_fault {r : Fault} (h : BlindToErr f) (hr : f s = .fault r) : f { s with err := true } = .fault r := by
  rw [h s, hr]
  rfl

end

end BlindToErr

/-! ### Every operation and every step without reset is blind to `ERR` -/

theorem blind_selectAssert : BlindToErr selectAssert :=
  .ite (fun _ => Iff.rfl) (.fault _) (.ite (fun _ => Iff.rfl) (.fault _) (.next fun _ => rfl))

theorem blind_selectRelease : BlindToErr selectRelease := .next fun _ => rfl

theorem blind_wait (us : Nat) : BlindToErr (wait us) := .next fun _ => rfl

/-- A transfer, of a byte that does not depend on `ERR`. -/
theorem blind_transfer (dst : Dst) {tx : State → Byte} (htx : ∀ s : State, tx { s with err := true } = tx s) :
    BlindToErr fun s => transfer dst (tx s) s := by
  refine .ite (fun _ => Iff.rfl) (.fault _) (.next fun s => ?_)
  rw [htx]
  cases dst <;> rfl

theorem blind_transferFirmware : BlindToErr transferFirmware :=
  .ite (fun _ => Iff.rfl) (.fault _) (blind_transfer .none fun _ => rfl)

theorem blind_transferSource (src : WrSrc) : BlindToErr (transferSource src) := by
  cases src <;> exact blind_transfer .none fun _ => rfl

/-- A command is accepted or held off whatever `ERR` is, and its rejection sets `ERR`. -/
theorem blind_consumeCommand (op : BitVec 2) (n : Half) : BlindToErr (consumeCommand op n) :=
  .ite (fun _ => Iff.rfl) (.next fun _ => rfl) (.ite (fun _ => Iff.rfl) (.next fun _ => rfl) fun _ => rfl)

/-- The end of a command in a session that does not depend on `ERR`. -/
theorem blind_finish {n : State → Session} (hn : ∀ s : State, n { s with err := true } = n s) :
    BlindToErr fun s => finish (n s) s :=
  .ite (fun _ => Iff.rfl) (.fault _) (.next fun s => by rw [hn])

theorem blind_fwbr (t : Byte) : BlindToErr (execFwbr t) := by
  refine .next fun s => ?_
  by_cases h : s.fwIdx = Config.fwLen
  · simp [h, jump]
  · simp [h, advance]

theorem blind_writeRegister (a : Addr7) (src : WrSrc) : BlindToErr (writeRegister a src) :=
  blind_selectAssert.andThen <| (blind_transfer .none fun _ => rfl).andThen <| (blind_transferSource src).andThen <|
    (blind_wait 20).andThen <| blind_selectRelease.andThen (blind_wait 100)

theorem blind_readRegister (a : Addr7) (dst : Dst) : BlindToErr (readRegister a dst) :=
  blind_selectAssert.andThen <| (blind_transfer .none fun _ => rfl).andThen <|
    (blind_transfer dst fun _ => rfl).andThen <| (blind_wait 1).andThen <| blind_selectRelease.andThen (blind_wait 19)

theorem blind_sendImage (k : Nat) : BlindToErr (sendImage k) := by
  induction k with
  | zero => exact .next fun _ => rfl
  | succ k ih => exact blind_transferFirmware.andThen <| (blind_wait 15).andThen <| ih.comp fun _ => rfl

theorem blind_burstWriteOps : BlindToErr burstWriteOps :=
  (blind_selectAssert.comp (u := fun s => { s with fwIdx := 0 }) fun _ => rfl).andThen <|
    (blind_transfer .none fun _ => rfl).andThen <| (blind_wait 15).andThen <|
    (blind_sendImage Config.fwLen).andThen blind_selectRelease

theorem blind_burstReadOps : BlindToErr burstReadOps :=
  blind_selectAssert.andThen <| (blind_transfer .none fun _ => rfl).andThen <|
    (blind_transfer .none fun _ => rfl).andThen <| (blind_transfer .none fun _ => rfl).andThen <|
    (blind_transfer .dxl fun _ => rfl).andThen <| (blind_transfer .dxh fun _ => rfl).andThen <|
    (blind_transfer .dyl fun _ => rfl).andThen <| (blind_transfer .dyh fun _ => rfl).andThen blind_selectRelease

theorem blind_exec (i : Instr) : BlindToErr (exec i) := by
  cases i with
  | init => exact blind_consumeCommand _ _
  | getConfig => exact blind_consumeCommand _ _
  | setConfig n => exact blind_consumeCommand _ n
  | getReport => exact blind_consumeCommand _ _
  | csa => exact blind_selectAssert
  | txi dst imm => exact blind_transfer dst fun _ => rfl
  | txf => exact blind_transferFirmware
  | txr => exact blind_transfer .none fun _ => rfl
  | txm mask => exact blind_transfer .none fun _ => rfl
  | fwbr t => exact blind_fwbr t
  | fin0 => exact blind_finish fun _ => rfl
  | fin1 => exact blind_finish fun _ => rfl
  | reservedOp0 low => exact .fault _
  | wr a src => exact blind_writeRegister a src
  | rd a dst => exact blind_readRegister a dst
  | singleWrite a v => exact (blind_writeRegister a (.imm v)).frame
  | singleRead a => exact (blind_readRegister a .rdval).frame
  | burstWrite => exact blind_burstWriteOps.frame
  | burstRead => exact blind_burstReadOps.frame
  | buscfg | csout | csd | waitu n | waitm n | fwz | fwnx t | aluDiv200 | aluMul200 | aluDec16 =>
    exact .next fun _ => rfl

theorem blind_runWord : BlindToErr runWord := by
  intro s
  cases hf : fetch s with
  | ok i => exact (blind_exec i).law_of_eq (runWord_ok hf) (runWord_ok hf)
  | error r => exact (BlindToErr.fault .illegalWord).law_of_eq (runWord_error hf) (runWord_error hf)

theorem blind_runSlot (e : TableWord) : BlindToErr (runSlot e) := by
  intro s
  unfold runSlot
  cases decodeTableWord e.nbits e.w with
  | some i => exact blind_exec i { s with slot := none }
  | none => rfl

/-- An edge without reset, by what it finds (R227): none of it depends on `ERR`. -/
theorem blind_stepWith {p : Ports} (hp : p.rst = false) : BlindToErr (stepWith p) := by
  intro s
  rcases Option.eq_none_or_eq_some s.slot with hs | ⟨e, hs⟩
  · rcases Bool.eq_false_or_eq_true s.busy with hb | hb
    · exact blind_runWord.law_of_eq (stepWith_busy hp hs hb) (stepWith_busy hp hs hb)
    · cases hv : p.cmdValid with
      | true => exact (blind_exec _).law_of_eq (stepWith_command hp hs hb hv) (stepWith_command hp hs hb hv)
      | false =>
        exact (BlindToErr.next (u := id) fun _ => rfl).law_of_eq (stepWith_nothing hp hs hb hv)
          (stepWith_nothing hp hs hb hv)
  · exact (blind_runSlot e).law_of_eq (stepWith_slot hp hs) (stepWith_slot hp hs)

/-- Settles O39: the readings of the one law, for every operation and for every step without reset. -/
theorem errIsStickyAndBlocksNothing : Obligations.ErrIsStickyAndBlocksNothing := by
  refine ⟨fun i s t => (blind_exec i).err_of_next, fun s t ht he hp => ?step, fun i s => ⟨fun t ht => ?goesOn,
    fun r hr => ?stops⟩⟩
  case step => exact (blind_stepWith hp).err_of_next (s := sampled s) ht he
  case goesOn => exact (blind_exec i).next_of_next (s := { s with err := false }) ht
  case stops => exact (blind_exec i).fault_of_fault (s := { s with err := false }) hr

end Sys2Proof.Machine

/-! ## Proofs: the reset edge (spec/70_reset_and_hazards.md R250) -/

namespace Sys2Proof.Machine

theorem tick_reset {p : Ports} (hp : p.rst = true) (s : State) : tick p s = .next (resetEdge s) := by
  simp [tick, hp]

/-- R34, R250: no register keeps anything of the state before the edge. -/
theorem resetEdge_reg (s : State) (r : Reg) : (resetEdge s).reg r = State.reset.reg r := by cases r <;> rfl

/-- Settles O44: at both levels the edge with `rst = 1` is `resetEdge`, whatever the state. -/
theorem resetEdgeWinsAtOnce : Obligations.ResetEdgeWinsAtOnce :=
  ⟨fun s hp => ⟨_, stepWith_reset hp (sampled s), resetEdge_reg _, rfl, rfl, rfl, rfl⟩,
    fun _ s hp => ⟨_, tick_reset hp s, resetEdge_reg s, rfl, rfl⟩⟩

end Sys2Proof.Machine

/-! ## Proofs: the latency of a command (spec/70_reset_and_hazards.md R270 to R274)

`RunsFor n s` says that the command running in `s` ends at the edge `n` ticks from here. A word adds its duration to
what its successor still takes (`lasts_word`), so a stretch of words that only advance adds the sum of their durations
(`lasts_stretch`) and the firmware loop one pass for each image byte left (`lasts_loop`). The formulas of R274 are these
sums, block by block of the listing. -/

namespace Sys2Proof.Machine

/-! ### Runs of ticks -/

/-- The command running in `s` is busy for exactly `n` ticks more and then done, as long as no reset comes. -/
def RunsFor : Nat → State → Prop
  | 0, s => s.busy = false ∧ s.done = true
  | n + 1, s => s.busy = true ∧ ∀ p : Ports, p.rst = false → ∃ t, tick p s = .next t ∧ RunsFor n t

/-- As many edges as there are ports later, that much less is left. -/
theorem RunsFor.after_ticks {m : Nat} {s : State} {ps : List Ports} (hps : ∀ p ∈ ps, p.rst = false)
    (h : RunsFor (m + ps.length) s) : ∃ v, tickRun ps s = .next v ∧ RunsFor m v := by
  induction ps generalizing s with
  | nil => exact ⟨s, rfl, h⟩
  | cons p ps ih =>
    obtain ⟨hp, hps⟩ := List.forall_mem_cons.mp hps
    obtain ⟨-, hnext⟩ := h
    obtain ⟨t, ht, hrun⟩ := hnext p hp
    obtain ⟨v, hv, hleft⟩ := ih hps hrun
    exact ⟨v, andThen_eq_next.mpr ⟨t, ht, hv⟩, hleft⟩

section
variable {n : Nat} {s : State} {ps : List Ports} (h : RunsFor n s) (hlen : ps.length = n)
  (hps : ∀ p ∈ ps, p.rst = false)
include h hlen hps

theorem RunsFor.busy_before {k : Nat} (hk : k < n) : ∃ v, tickRun (ps.take k) s = .next v ∧ v.busy = true := by
  obtain ⟨m, rfl⟩ := Nat.exists_eq_add_of_lt hk
  have hsplit : m + 1 + (ps.take k).length = k + m + 1 := by
    rw [List.length_take]
    omega
  obtain ⟨v, hv, hbusy, -⟩ := RunsFor.after_ticks (fun p hp => hps p (List.mem_of_mem_take hp)) (hsplit ▸ h)
  exact ⟨v, hv, hbusy⟩

theorem RunsFor.done_after : ∃ v, tickRun ps s = .next v ∧ v.busy = false ∧ v.done = true := by
  have hall : 0 + ps.length = n := (Nat.zero_add _).trans hlen
  exact RunsFor.after_ticks hps (hall ▸ h)

end

/-! ### The ticks of one word -/

section
variable {p : Ports} {s : State} {i : Instr} (hp : p.rst = false) (hb : s.busy = true) (hi : fetch s = .ok i)
include hp hb hi

/-- R270: a tick that does not end its word. -/
theorem tick_inner (hd : s.tph + 1 < duration i) : tick p s = .next (innerTick i s) := by
  simp [tick, hp, hb, hi, hd]

/-- R270: the tick that ends its word executes it. -/
theorem tick_last (hd : duration i ≤ s.tph + 1) : tick p s = restartTicks (exec i (withShifted i s)) := by
  simp [tick, hp, hb, hi, Nat.not_lt.mpr hd]

end

/-- All a tick inside a word does to the control registers is to count. -/
theorem innerTick_control (i : Instr) (s : State) :
    (innerTick i s).control = { s.control with tph := (s.tph + 1) % 2 ^ Config.wcntW } := by
  unfold innerTick shiftIn
  split_ifs <;> rfl

theorem withShifted_control (i : Instr) (s : State) : (withShifted i s).control = s.control := by
  unfold withShifted
  split_ifs <;> rfl

/-- One word, and no wait longer than the longest wait, 100 ms (R6): so is every word of the micro-program. -/
def noLongWait : Instr → Bool
  | .waitm n => n ≤ 100#12
  | .wr _ _ | .rd _ _ | .singleWrite _ _ | .singleRead _ | .burstWrite | .burstRead => false
  | _ => true

theorem listing_noLongWait : listing.all noLongWait = true := by decide

theorem ticksUs_mono {d e : Nat} (h : d ≤ e) : ticksUs d ≤ ticksUs e :=
  (ticksUs_le_iff d _).mpr ((Nat.mul_le_mul_right _ h).trans (ticksUs_long_enough e))

theorem ticksUs_fits {d : Nat} (h : d ≤ 100000) : ticksUs d < 2 ^ Config.wcntW :=
  (ticksUs_mono h).trans_lt ((Nat.le_max_left _ _).trans_lt (longestWait_eq ▸ longest_lt_two_pow))

/-- R26: `TPH` can count the ticks of every word of the micro-program. -/
theorem duration_fits {i : Instr} (h : noLongWait i = true) : duration i ≤ 2 ^ Config.wcntW := by
  cases i with
  | txi _ _ | txf | txr | txm _ => exact transferTicks_fits.le
  | waitu n => exact (ticksUs_fits (by omega)).le
  | waitm n =>
    have hn : n.toNat ≤ 100 := BitVec.le_def.mp (of_decide_eq_true h)
    exact (ticksUs_fits (by omega)).le
  | wr _ _ | rd _ _ | singleWrite _ _ | singleRead _ | burstWrite | burstRead => exact nomatch h
  | _ => exact phase_zero_fits

/-- R271: a word takes a tick at least. -/
theorem duration_pos {i : Instr} (hw : WellFormed i = true) (h : noLongWait i = true) : 0 < duration i := by
  have htransfer : 0 < transferTicks := Nat.mul_pos (by decide) sckHalf_pos
  cases i with
  | txi _ _ | txf | txr | txm _ => exact htransfer
  | waitu n =>
    have hn : n ≠ 0#12 := bne_iff_ne.mp hw
    exact ticksUs_pos (by bv_omega)
  | waitm n =>
    have hn : n ≠ 0#12 := bne_iff_ne.mp hw
    exact ticksUs_pos (by bv_omega)
  | wr _ _ | rd _ _ | singleWrite _ _ | singleRead _ | burstWrite | burstRead => exact nomatch h
  | _ => exact Nat.one_pos

/-! ### Where a command runs, and how long from there -/

/-- A state of the invariant whose running command is at address `a` with firmware index `k`. -/
structure At (a k : Nat) (s : State) : Prop where
  inv : Inv s
  busy : s.busy = true
  upc : s.upc.toNat = a
  index : s.fwIdx = k

/-- From the first tick of the word at `a`, with firmware index `k`, the command runs for `n` ticks. -/
def Lasts (a k n : Nat) : Prop := ∀ s : State, At a k s → s.tph = 0 → RunsFor n s

theorem At.congr {a k : Nat} {s t : State} (h : At a k s) (hc : s.control = t.control) : At a k t where
  inv := h.inv.congr hc
  busy := (congrArg State.busy hc).symm.trans h.busy
  upc := (congrArg (fun u => u.upc.toNat) hc).symm.trans h.upc
  index := (congrArg State.fwIdx hc).symm.trans h.index

theorem At.with_tph {a k j : Nat} {s : State} (h : At a k s) (hj : j < 2 ^ Config.wcntW) :
    At a k { s with tph := j } :=
  { h with
    inv := { h.inv with
      tphWidth := hj
      running := fun hb => { h.inv.running hb with }
      idle := fun hb => { h.inv.idle hb with } } }

section
variable {a k : Nat} {i : Instr} (hi : listing[a]? = some i)
include hi

theorem At.fetch {s : State} (h : At a k s) : fetch s = .ok i := fetch_listing h.inv.rom (h.upc ▸ hi)

theorem fits_listing : fits a i = true :=
  List.all_eq_true.mp listing_fits (i, a) (List.mk_mem_zipIdx_iff_getElem?.mpr hi)

/-- What executes at a listed address goes on to a state of the invariant. -/
theorem At.exec_inv {s : State} (h : At a k s) : ∃ t, exec i s = .next t ∧ Inv t := by
  obtain ⟨t, ht, hgo | hend⟩ := exec_of_fits h.inv h.busy (h.upc ▸ fits_listing hi)
  · exact ⟨t, ht, hgo.inv⟩
  · exact ⟨t, ht, hend.inv⟩

/-- From any tick of a word, its ticks left and then those of what follows its execution. -/
theorem runsFor_rest {n m : Nat}
    (hexec : ∀ s, At a k s → ∃ t, exec i s = .next t ∧ RunsFor n { t with tph := 0 })
    {s : State} (h : At a k s) (hm : s.tph + (m + 1) = duration i) : RunsFor (m + 1 + n) s := by
  have hfits : duration i ≤ 2 ^ Config.wcntW :=
    duration_fits (List.all_eq_true.mp listing_noLongWait i (List.mem_of_getElem? hi))
  induction m generalizing s with
  | zero =>
    rw [Nat.zero_add, Nat.add_comm]
    refine ⟨h.busy, fun p hp => ?_⟩
    obtain ⟨t, ht, hrun⟩ := hexec _ (h.congr (withShifted_control i s).symm)
    refine ⟨_, (tick_last hp h.busy (h.fetch hi) hm.ge).trans ?_, hrun⟩
    rw [ht]
    rfl
  | succ m ih =>
    rw [Nat.add_right_comm]
    refine ⟨h.busy, fun p hp => ⟨_, tick_inner hp h.busy (h.fetch hi) (by omega), ?_⟩⟩
    have htph : (innerTick i s).tph = s.tph + 1 :=
      (congrArg State.tph (innerTick_control i s)).trans (Nat.mod_eq_of_lt (by omega))
    have hat : At a k (innerTick i s) :=
      (h.with_tph (Nat.mod_lt _ phase_zero_fits)).congr (innerTick_control i s).symm
    exact ih hat (by omega)

/-- A word's ticks are its duration. -/
theorem lasts_exec {n : Nat} (hexec : ∀ s, At a k s → ∃ t, exec i s = .next t ∧ RunsFor n { t with tph := 0 }) :
    Lasts a k (duration i + n) := by
  intro s h htph
  have hmem := List.mem_of_getElem? hi
  have hpos : 0 < duration i :=
    duration_pos (List.all_eq_true.mp listing_wellFormed i hmem) (List.all_eq_true.mp listing_noLongWait i hmem)
  obtain ⟨m, hm⟩ := Nat.exists_eq_add_of_lt hpos
  rw [Nat.zero_add] at hm
  rw [hm]
  exact runsFor_rest hi hexec h (by omega)

/-- A word that goes to address `b` with index `j` takes its duration longer than the command takes from there. -/
theorem lasts_word {b j n : Nat}
    (hgo : ∀ s t, At a k s → exec i s = .next t → t.busy = true ∧ t.upc.toNat = b ∧ t.fwIdx = j)
    (hn : Lasts b j n) : Lasts a k (duration i + n) := by
  refine lasts_exec hi fun s h => ?_
  obtain ⟨t, ht, hinv⟩ := h.exec_inv hi
  obtain ⟨hbusy, hupc, hindex⟩ := hgo s t h ht
  exact ⟨t, ht, hn _ (At.with_tph ⟨hinv, hbusy, hupc, hindex⟩ phase_zero_fits) rfl⟩

end

/-! ### Stretches of words that only advance -/

/-- The micro-operations that go to the next word and leave the firmware index. -/
def advances : Instr → Bool
  | .buscfg | .csout | .csa | .csd | .txi _ _ | .txf | .txr | .txm _ | .waitu _ | .waitm _ => true
  | .aluDiv200 | .aluMul200 | .aluDec16 => true
  | _ => false

/-- The registers that say where a command runs, after a word that advances. -/
structure Advanced (s t : State) : Prop where
  busy : t.busy = s.busy
  upc : t.upc = s.upc + 1#8
  index : t.fwIdx = s.fwIdx

theorem advanced_of_transfer {dst : Dst} {tx : Byte} {s t : State} (h : transfer dst tx s = .next t) :
    Advanced s t :=
  have hc := transfer_control h
  ⟨(congrArg State.busy hc).symm, (congrArg State.upc hc).symm, (congrArg State.fwIdx hc).symm⟩

theorem exec_advanced {i : Instr} (hi : advances i = true) {s t : State} (h : exec i s = .next t) :
    Advanced s t := by
  cases i with
  | csa =>
    obtain ⟨-, -, -, rfl⟩ := selectAssert_eq_next.mp h
    exact ⟨rfl, rfl, rfl⟩
  | txi _ _ | txr | txm _ => exact advanced_of_transfer h
  | txf => exact advanced_of_transfer (transferFirmware_eq_next.mp h).2
  | buscfg | csout | csd | waitu _ | waitm _ | aluDiv200 | aluMul200 | aluDec16 =>
    cases h
    exact ⟨rfl, rfl, rfl⟩
  | _ => exact nomatch hi

theorem At.upc_add_one {a k : Nat} {s : State} (h : At a k s) : (s.upc + 1#8).toNat = a + 1 := by
  rw [Machine.upc_add_one (h.inv.running h.busy).range, h.upc]

/-- The ticks of some words, each executed once. -/
def ticksOf (block : List Instr) : Nat := (block.map duration).sum

theorem ticksOf_nil : ticksOf [] = 0 := rfl

/-- One word more. -/
theorem ticksOf_cons (i : Instr) (block : List Instr) : ticksOf (i :: block) = duration i + ticksOf block := rfl

theorem ticksOf_append (b c : List Instr) : ticksOf (b ++ c) = ticksOf b + ticksOf c := by
  rw [ticksOf, List.map_append, List.sum_append]
  rfl

/-- The first of some words in the listing, and the others behind it. -/
theorem listed_cons {a : Nat} {i : Instr} {block : List Instr} (h : i :: block <+: listing.drop a) :
    listing[a]? = some i ∧ block <+: listing.drop (a + 1) := by
  obtain ⟨rest, hrest⟩ := h
  refine ⟨?_, rest, ?_⟩
  · rw [← Nat.add_zero a, ← List.getElem?_drop, ← hrest]
    rfl
  · rw [← List.tail_drop, ← hrest]
    rfl

/-- From the first word of a stretch in the listing, its ticks and then those from behind it. -/
theorem lasts_stretch {k n : Nat} (block : List Instr) {a : Nat} (hblock : block <+: listing.drop a)
    (hadv : block.all advances = true) (hn : Lasts (a + block.length) k n) : Lasts a k (ticksOf block + n) := by
  induction block generalizing a with
  | nil =>
    rw [ticksOf_nil, Nat.zero_add]
    exact hn
  | cons i block ih =>
    obtain ⟨hi, hrest⟩ := listed_cons hblock
    rw [List.all_cons, Bool.and_eq_true] at hadv
    rw [ticksOf_cons, Nat.add_assoc]
    refine lasts_word hi (fun s t h ht => ?_) (ih hrest hadv.2 (by rwa [Nat.add_right_comm]))
    have hword := exec_advanced hadv.1 ht
    exact ⟨hword.busy.trans h.busy, (congrArg BitVec.toNat hword.upc).trans h.upc_add_one, hword.index.trans h.index⟩

/-- `FIN` ends the command at its one tick (R205). -/
theorem lasts_fin {a k : Nat} {i : Instr} (hi : listing[a]? = some i) (hfin : i = .fin0 ∨ i = .fin1) :
    Lasts a k 1 := by
  have hend : ∀ s t, exec i s = .next t → t.busy = false ∧ t.done = true := by
    rcases hfin with rfl | rfl <;>
    · intro s t ht
      obtain ⟨-, rfl⟩ := finish_eq_next.mp ht
      exact ⟨rfl, rfl⟩
  have hone : duration i = 1 := by rcases hfin with rfl | rfl <;> rfl
  refine hone ▸ lasts_exec (n := 0) hi fun s h => ?_
  obtain ⟨t, ht, -⟩ := h.exec_inv hi
  exact ⟨t, ht, hend s t ht⟩

/-- A stretch that `FIN` follows. -/
theorem lasts_routine {a k : Nat} (block : List Instr) {i : Instr} (hblock : block ++ [i] <+: listing.drop a)
    (hadv : block.all advances = true) (hfin : i = .fin0 ∨ i = .fin1) : Lasts a k (ticksOf block + 1) := by
  obtain ⟨rest, hrest⟩ := hblock
  have hi : listing[a + block.length]? = some i := by
    rw [← List.getElem?_drop, ← hrest]
    simp
  exact lasts_stretch block ⟨[i] ++ rest, (List.append_assoc ..).symm.trans hrest⟩ hadv (lasts_fin hi hfin)

/-! ### The firmware loop (R162 to R165) -/

/-- `FWZ` starts the loop's index at 0. -/
theorem lasts_fwz {k n : Nat} (hn : Lasts 0x3E 0 n) : Lasts 0x3D k (1 + n) := by
  refine lasts_word (i := .fwz) rfl (fun s t h ht => ?_) hn
  cases ht
  exact ⟨h.busy, h.upc_add_one, rfl⟩

/-- `FWBR` with the whole image sent leaves the loop. -/
theorem lasts_fwbr_sent {n : Nat} (hn : Lasts 0x45 Config.fwLen n) : Lasts 0x41 Config.fwLen (1 + n) := by
  refine lasts_word (i := .fwbr 0x45#8) rfl (fun s t h ht => ?_) hn
  cases (if_pos h.index).symm.trans (Host.Outcome.next.inj ht)
  exact ⟨h.busy, rfl, h.index⟩

/-- `FWBR` with image bytes left enters the body. -/
theorem lasts_fwbr_left {k n : Nat} (hk : k < Config.fwLen) (hn : Lasts 0x42 k n) : Lasts 0x41 k (1 + n) := by
  refine lasts_word (i := .fwbr 0x45#8) rfl (fun s t h ht => ?_) hn
  cases (if_neg (h.index.trans_lt hk).ne).symm.trans (Host.Outcome.next.inj ht)
  exact ⟨h.busy, h.upc_add_one, h.index⟩

/-- `FWNX` goes back to the test with the next index. -/
theorem lasts_fwnx {k n : Nat} (hk : k < Config.fwLen) (hn : Lasts 0x41 (k + 1) n) : Lasts 0x44 k (1 + n) := by
  refine lasts_word (i := .fwnx 0x41#8) rfl (fun s t h ht => ?_) hn
  cases ht
  have hnext : (s.fwIdx + 1) % 2 ^ Config.fwAw = k + 1 := by
    rw [h.index]
    exact Nat.mod_eq_of_lt (Nat.lt_of_le_of_lt hk fwLen_lt_two_pow)
  exact ⟨h.busy, rfl, hnext⟩

/-- What the loop does for an image byte (R165). -/
def loopBody : List Instr := [.txf, .waitu 15#12]

/-- The ticks of one pass of the loop: `FWBR`, the body and `FWNX`. -/
def passTicks : Nat := 1 + (ticksOf loopBody + 1)

/-- The loop takes a pass for each image byte left, and then the `FWBR` that leaves it. -/
theorem lasts_loop {n : Nat} (hn : Lasts 0x45 Config.fwLen n) (r : Nat) {k : Nat} (hk : k + r = Config.fwLen) :
    Lasts 0x41 k (r * passTicks + (1 + n)) := by
  induction r generalizing k with
  | zero =>
    rw [Nat.zero_mul, Nat.zero_add, show k = Config.fwLen from hk]
    exact lasts_fwbr_sent hn
  | succ r ih =>
    have hlt : k < Config.fwLen := by omega
    have hbody : Lasts 0x42 k (ticksOf loopBody + (1 + (r * passTicks + (1 + n)))) :=
      lasts_stretch loopBody ⟨listing.drop 0x44, rfl⟩ rfl (lasts_fwnx hlt (ih (by omega)))
    have hticks : 1 + (ticksOf loopBody + (1 + (r * passTicks + (1 + n)))) = (r + 1) * passTicks + (1 + n) := by
      rw [Nat.succ_mul, passTicks]
      omega
    exact hticks ▸ lasts_fwbr_left hlt hbody

/-! ### The four routines (R274) -/

theorem lasts_getReport (k : Nat) : Lasts 0x66 k (latency 0b11#2) := by
  have hticks : ticksOf getReportAsm.dropLast + 1 = latency 0b11#2 := by
    simp only [getReportAsm, List.dropLast, ticksOf_cons, ticksOf_nil, duration, transferTicks, latency,
      BitVec.reduceToNat]
    ring
  exact hticks ▸ lasts_routine getReportAsm.dropLast ⟨[], rfl⟩ rfl (.inl rfl)

theorem lasts_getConfig (k : Nat) : Lasts 0x55 k (latency 0b01#2) := by
  have hticks : ticksOf getConfigAsm.dropLast + 1 = latency 0b01#2 := by
    simp only [getConfigAsm, List.dropLast, ticksOf_cons, ticksOf_nil, duration, transferTicks, latency,
      BitVec.reduceToNat]
    ring
  exact hticks ▸ lasts_routine getConfigAsm.dropLast ⟨listing.drop 0x5D, rfl⟩ rfl (.inl rfl)

theorem lasts_setConfig (k : Nat) : Lasts 0x5D k (latency 0b10#2) := by
  have hticks : ticksOf setConfigAsm.dropLast + 1 = latency 0b10#2 := by
    simp only [setConfigAsm, List.dropLast, ticksOf_cons, ticksOf_nil, duration, transferTicks, latency,
      BitVec.reduceToNat, Nat.reduceMul]
    ring
  exact hticks ▸ lasts_routine setConfigAsm.dropLast ⟨listing.drop 0x66, rfl⟩ rfl (.inl rfl)

/-- The words of INIT before the firmware burst. -/
def beforeBurst : List Instr := resetPulseAsm ++ powerUpAsm ++ discardReadsAsm ++ downloadModeAsm

/-- The words of the burst before the loop. -/
def burstStart : List Instr := [.csa, .txi .none 0xE2#8, .waitu 15#12]

/-- The words of INIT behind the loop, up to its `FIN`. -/
def behindLoop : List Instr := [.csd, .waitm 10#12] ++ laserEnableAsm.dropLast

/-- R274's formula for INIT, part by part: before the burst, `FWZ`, the burst's start, the loop, and the rest. -/
theorem latency_init :
    ticksOf beforeBurst + (1 + (ticksOf burstStart + (Config.fwLen * passTicks + (1 + (ticksOf behindLoop + 1))))) =
      latency 0b00#2 := by
  simp only [beforeBurst, burstStart, behindLoop, resetPulseAsm, powerUpAsm, discardReadsAsm, downloadModeAsm,
    laserEnableAsm, passTicks, loopBody, List.dropLast, ticksOf_append, ticksOf_cons, ticksOf_nil, duration,
    transferTicks, latency, BitVec.reduceToNat, Nat.reduceMul]
  ring

theorem lasts_init (k : Nat) : Lasts 0x00 k (latency 0b00#2) := by
  have hend : Lasts 0x45 Config.fwLen (ticksOf behindLoop + 1) :=
    lasts_routine behindLoop ⟨listing.drop 0x55, rfl⟩ rfl (.inr rfl)
  have hloop := lasts_loop hend Config.fwLen (Nat.zero_add _)
  have hburst := lasts_fwz (k := k) (lasts_stretch burstStart ⟨listing.drop 0x41, rfl⟩ rfl hloop)
  exact latency_init ▸ lasts_stretch beforeBurst ⟨listing.drop 0x3D, rfl⟩ rfl hburst

/-- From the entry of each command's routine its latency is left. -/
theorem lasts_entry (op : BitVec 2) (k : Nat) : Lasts (entryAddress op).toNat k (latency op) := by
  have hop : op = 0b00#2 ∨ op = 0b01#2 ∨ op = 0b10#2 ∨ op = 0b11#2 := by revert op; decide
  rcases hop with rfl | rfl | rfl | rfl
  · exact lasts_init k
  · exact lasts_getConfig k
  · exact lasts_setConfig k
  · exact lasts_getReport k

/-- The accepting edge (R201) of a command, of which SET_CONFIG alone takes the argument. -/
theorem tick_accept {s : State} (hb : s.busy = false) {op : BitVec 2} (ha : admitted op s.session = true) (n : Half) :
    tick { rst := false, cmdValid := true, cmdOp := op, cmdCpi := n } s = .next (accept op n s) := by
  obtain ⟨k, hexec, hk⟩ := exec_decodeCommand op n s
  have haccept : accept op k s = accept op n s := by
    by_cases hop : op = 0b10#2
    · rw [hk hop]
    · simp [accept, hop]
  have htick : tick { rst := false, cmdValid := true, cmdOp := op, cmdCpi := n } s = exec (decodeCommand op n) s := by
    simp [tick, hb]
  rw [htick, hexec, consumeCommand_of_admitted hb ha, haccept]

/-- An accepted command runs for its latency. -/
theorem runsFor_accept {s : State} (h : Inv s) (hb : s.busy = false) {op : BitVec 2}
    (ha : admitted op s.session = true) (n : Half) : RunsFor (latency op) (accept op n s) :=
  lasts_entry op s.fwIdx _ ⟨inv_accept h hb ha n, rfl, rfl, rfl⟩ rfl

/-- Settles O55: the accepting edge is that of the event level, and from there the routine lasts for the latency. -/
theorem commandLatency : Obligations.CommandLatency := by
  refine ⟨fun s op n ps h hb ha hlen hps => ?run, fun hf hh hl => ?at1MHz, fun hf hh hl => ?at16MHz⟩
  case run =>
    have hrun := runsFor_accept h hb ha n
    exact ⟨tick_accept hb ha n, fun k => hrun.busy_before hlen hps, hrun.done_after hlen hps⟩
  case at1MHz => simp [latency, ticksUs, hf, hh, hl]
  case at16MHz => simp [latency, ticksUs, hf, hh, hl]

end Sys2Proof.Machine

/-! ## Proofs: the encoding (spec/30_encoding.md)

A word is put together again from its fields, so what the decoder reads in a word is what the encoder writes there
(`encode_of_decodeW16`), and the list of R102 is read off the fields as numbers. -/

namespace Sys2Proof.Machine

/-- Settles O1: the round trip of each operation, gathered in `decode_encode`. -/
theorem decodeEncodeRoundTrip : Obligations.DecodeEncodeRoundTrip := decode_encode

/-! ### A word from its fields (R96) -/

theorem word_of_fields {w : Half} {op a : BitVec 4} {b : Byte} (ho : opField w = op) (ha : aField w = a)
    (hb : bField w = b) : word op a b = w := by
  subst ho ha hb
  refine BitVec.eq_of_getLsbD_eq fun k hk => ?_
  rw [getLsbD_word]
  split_ifs with h8 h12
  · simp [bField, h8]
  · simp [aField, show k - 8 < 4 by omega, show 8 + (k - 8) = k by omega]
  · simp [opField, show k - 12 < 4 by omega, show 12 + (k - 12) = k by omega]

theorem wordN_of_fields {w : Half} {op : BitVec 4} {n : BitVec 12} (ho : opField w = op) (hn : nField w = n) :
    wordN op n = w := by
  subst ho hn
  refine BitVec.eq_of_getLsbD_eq fun k hk => ?_
  rw [getLsbD_wordN]
  split_ifs with h12
  · simp [nField, h12]
  · simp [opField, show k - 12 < 4 by omega, show 12 + (k - 12) = k by omega]

/-- A word without operands is its opcode over twelve zeros. -/
theorem word_bare (op : BitVec 4) : word op 0#4 0#8 = wordN op 0#12 := by revert op; decide

/-! ### What the decoder reads is what the encoder writes -/

theorem bare_eq_ok {w : Half} {i j : Instr} : bare w j = .ok i ↔ nField w = 0#12 ∧ j = i := by
  unfold bare
  split <;> simp [*]

theorem code_of_ofCode {c : BitVec 4} {d : Dst} (h : Dst.ofCode c = some d) : d.code = c := by
  revert c d
  decide

/-- A word without operands decodes to its own operation only where they are 0. -/
theorem encode_of_bare {w : Half} {i j : Instr} {op : BitVec 4} (ho : (opField w).toNat = op.toNat)
    (hj : encode j = .w16 (word op 0#4 0#8)) (hwf : WellFormed j = true) (h : bare w j = .ok i) :
    encode i = .w16 w ∧ WellFormed i = true := by
  obtain ⟨hn, rfl⟩ := bare_eq_ok.mp h
  refine ⟨hj.trans (congrArg Encoded.w16 ?_), hwf⟩
  exact (word_bare op).trans (wordN_of_fields (BitVec.eq_of_toNat_eq ho) hn)

/-- The fields of a word that decodes are those of the operation's encoding (R97 to R102). -/
theorem encode_of_decodeW16 {w : Half} {i : Instr} (h : decodeW16 w = .ok i) :
    encode i = .w16 w ∧ WellFormed i = true := by
  unfold decodeW16 at h
  split at h
  case h_1 ho =>
    cases h
    exact ⟨congrArg Encoded.w16 (wordN_of_fields (BitVec.eq_of_toNat_eq ho) rfl), rfl⟩
  case h_2 ho | h_3 ho | h_4 ho | h_5 ho | h_7 ho | h_8 ho | h_12 ho =>
    exact encode_of_bare (op := BitVec.ofNat 4 _) (ho.trans rfl) rfl rfl h
  case h_6 ho =>
    split at h
    · rename_i dst hd
      cases h
      exact ⟨congrArg Encoded.w16 (word_of_fields (BitVec.eq_of_toNat_eq ho) (code_of_ofCode hd).symm rfl), rfl⟩
    · cases h
  case h_9 ho | h_13 ho | h_14 ho =>
    split at h
    · rename_i ha
      cases h
      exact ⟨congrArg Encoded.w16 (word_of_fields (BitVec.eq_of_toNat_eq ho) ha rfl), rfl⟩
    · cases h
  case h_10 ho | h_11 ho =>
    split at h
    · cases h
    · rename_i hn
      cases h
      exact ⟨congrArg Encoded.w16 (wordN_of_fields (BitVec.eq_of_toNat_eq ho) rfl), bne_iff_ne.mpr hn⟩
  case h_15 ho =>
    split at h
    · rename_i hb
      split at h
      case h_4 => cases h
      all_goals
        rename_i ha
        cases h
        exact ⟨congrArg Encoded.w16
          (word_of_fields (BitVec.eq_of_toNat_eq ho) (BitVec.eq_of_toNat_eq ha) hb), rfl⟩
    · cases h
  case h_16 =>
    have ho : (opField w).toNat = 15 := by
      have hlt := (opField w).isLt
      simp only [imp_false] at *
      omega
    split at h
    · rename_i hb
      split at h
      case h_3 => cases h
      all_goals
        rename_i ha
        cases h
        exact ⟨congrArg Encoded.w16
          (word_of_fields (BitVec.eq_of_toNat_eq ho) (BitVec.eq_of_toNat_eq ha) hb), rfl⟩
    · cases h

/-- Settles O2: word for word, by the rows of the opcode map. -/
theorem encodeOfDecodedWord : Obligations.EncodeOfDecodedWord := fun _ _ => encode_of_decodeW16

/-! ### The illegal words (R102) -/

theorem opField_toNat (w : Half) : (opField w).toNat = w.toNat / 4096 := by
  have := w.isLt
  simp only [opField, BitVec.extractLsb'_toNat, Nat.shiftRight_eq_div_pow]
  omega

theorem aField_toNat (w : Half) : (aField w).toNat = w.toNat / 256 % 16 := by
  simp [aField, BitVec.extractLsb'_toNat, Nat.shiftRight_eq_div_pow]

theorem bField_toNat (w : Half) : (bField w).toNat = w.toNat % 256 := by
  simp [bField, BitVec.extractLsb'_toNat]

/-- The two operand fields as one (R99). -/
theorem nField_toNat (w : Half) : (nField w).toNat = 256 * (aField w).toNat + (bField w).toNat := by
  simp [nField, aField_toNat, bField_toNat, BitVec.extractLsb'_toNat]
  omega

/-- The reserved opcode. -/
def isReserved : Instr → Bool
  | .reservedOp0 _ => true
  | _ => false

/-- What the decoder answers for a word that may not be executed: a rejection, or the reserved opcode (R102). -/
def unusable : Except Reject Instr → Bool
  | .error _ => true
  | .ok i => isReserved i

@[simp] theorem unusable_error (r : Reject) : unusable (.error r) = true := rfl
@[simp] theorem unusable_ok (i : Instr) : unusable (.ok i) = isReserved i := rfl

theorem isReserved_iff {i : Instr} : isReserved i = true ↔ ∃ low, i = .reservedOp0 low := by
  cases i <;> simp [isReserved]

theorem unusable_iff {o : Except Reject Instr} :
    unusable o = true ↔ (∃ r, o = .error r) ∨ ∃ low, o = .ok (.reservedOp0 low) := by
  cases o <;> simp [isReserved_iff]

theorem ofCode_eq_none {c : BitVec 4} : Dst.ofCode c = none ↔ 6 ≤ c.toNat := by
  revert c
  decide

theorem nField_eq_zero {w : Half} : nField w = 0#12 ↔ (aField w).toNat = 0 ∧ (bField w).toNat = 0 := by
  rw [BitVec.toNat_eq, nField_toNat]
  simp

theorem aField_eq_zero {w : Half} : aField w = 0#4 ↔ (aField w).toNat = 0 := BitVec.toNat_eq

theorem bField_eq_zero {w : Half} : bField w = 0#8 ↔ (bField w).toNat = 0 := BitVec.toNat_eq

/-- R102 lists the words that the decoder gives no executable operation. -/
theorem illegalWord_iff {w : Half} : IllegalWord w ↔ unusable (decodeW16 w) = true := by
  unfold IllegalWord decodeW16
  simp only [← opField_toNat, ← aField_toNat, ← bField_toNat]
  split
  case h_1 hop => exact iff_of_true (.inl hop) rfl
  case h_6 hop =>
    rw [hop]
    split
    · rename_i dst hd
      have ha : ¬ 6 ≤ (aField w).toNat := mt ofCode_eq_none.mpr (by simp [hd])
      simp [isReserved]
      omega
    · rename_i hd
      simpa using ofCode_eq_none.mp hd
  case h_15 hop =>
    simp only [hop, bField_eq_zero]
    split_ifs with hb
    · split <;> simp_all [isReserved]
      omega
    · simp [hb]
  case h_16 =>
    have hop : (opField w).toNat = 15 := by
      have hlt := (opField w).isLt
      simp only [imp_false] at *
      omega
    simp only [hop, bField_eq_zero]
    split_ifs with hb
    · split <;> simp_all [isReserved]
      omega
    · simp [hb]
  all_goals
    rename_i hop
    simp only [bare, hop, nField_eq_zero, aField_eq_zero]
    split_ifs with h <;> simp [isReserved] <;> omega

/-- Beyond the listing the micro-program holds the reserved word 0x0000 (R63). -/
theorem romWord_beyond {a : Nat} (h : 0x70 < a) : romWord a = 0x0000#16 := by
  have hlen : microWords.length = 113 := by decide
  rw [romWord, List.getD_eq_getElem?_getD, List.getElem?_eq_none (by omega)]
  rfl

theorem listed_of_le {a : Nat} (h : a ≤ 0x70) : ∃ i, listing[a]? = some i :=
  ⟨_, List.getElem?_eq_getElem (by rw [listing_length]; omega)⟩

theorem listing_not_reserved : listing.all (fun i => !isReserved i) = true := by decide

theorem not_illegalWord_romWord {a : Nat} (h : a ≤ 0x70) : ¬ IllegalWord (romWord a) := by
  obtain ⟨i, hi⟩ := listed_of_le h
  have hres := List.all_eq_true.mp listing_not_reserved i (List.mem_of_getElem? hi)
  rw [illegalWord_iff, decodeW16_romWord hi]
  simpa using hres

/-- R102, R204: a running command stops at a word that may not be executed. -/
theorem runWord_of_unusable {s : State} (h : unusable (fetch s) = true) : runWord s = .fault .illegalWord := by
  rcases unusable_iff.mp h with ⟨r, hr⟩ | ⟨low, hlow⟩
  · exact runWord_error hr
  · exact (runWord_ok hlow).trans rfl

/-- Settles O3: the list of R102 is what the decoder gives no executable operation, and such a word stops the step. -/
theorem illegalWordsAreCaught : Obligations.IllegalWordsAreCaught := by
  refine ⟨fun w => illegalWord_iff.trans unusable_iff, fun s hp hs hb hw => ?_, fun a => not_illegalWord_romWord,
    fun a ha => ?_⟩
  · exact (stepWith_busy (s := sampled s) hp hs hb).trans (runWord_of_unusable (illegalWord_iff.mp hw))
  · rw [romWord_beyond ha]
    exact .inl rfl

/-- Settles O4: the words are the encodings of the listed operations. -/
theorem microProgramMatchesListing : Obligations.MicroProgramMatchesListing :=
  ⟨listing_length, fun _ _ => decodeW16_romWord, fun _ => romWord_beyond⟩

/-- Settles O5: each word is evaluated. -/
theorem writtenWordsDecode : Obligations.WrittenWordsDecode := ⟨rfl, rfl, rfl, rfl, rfl, rfl, rfl, rfl, rfl⟩

end Sys2Proof.Machine

/-! ## Proofs: what each operation does (spec/40_bus_primitives.md to spec/60_exceptions.md)

Said once for all operations: `stop i s` is the machine check that `exec i` takes at `s`, if any, and `effect i s` the
state it goes on to otherwise (`exec_eq_next`, `exec_eq_fault`). What an operation leaves alone, what it depends on and
where it stops is then read off these two. -/

namespace Sys2Proof.Machine

/-! ### The updates an operation is made of -/

/-- `s` with `n` words passed, in which `es` was recorded and `k` answers were consumed. -/
def passed (es : List Event) (k n : Nat) (s : State) : State :=
  { s with
    trace := s.trace ++ es
    answers := s.answers.drop k
    draws := s.draws + k
    upc := s.upc + BitVec.ofNat 8 n }

/-- `s` with select at `c`. -/
def select (c : Bool) (s : State) : State := { s with cs := c }

/-- `s` with the firmware index at `j`. -/
def index (j : Nat) (s : State) : State := { s with fwIdx := j }

section
variable (es : List Event) (k n : Nat) (s : State)

@[simp] theorem passed_session : (passed es k n s).session = s.session := rfl
@[simp] theorem passed_busy : (passed es k n s).busy = s.busy := rfl
@[simp] theorem passed_done : (passed es k n s).done = s.done := rfl
@[simp] theorem passed_err : (passed es k n s).err = s.err := rfl
@[simp] theorem passed_x : (passed es k n s).x = s.x := rfl
@[simp] theorem passed_y : (passed es k n s).y = s.y := rfl
@[simp] theorem passed_cpi : (passed es k n s).cpi = s.cpi := rfl
@[simp] theorem passed_arg : (passed es k n s).arg = s.arg := rfl
@[simp] theorem passed_raw : (passed es k n s).raw = s.raw := rfl
@[simp] theorem passed_rdval : (passed es k n s).rdval = s.rdval := rfl
@[simp] theorem passed_dxl : (passed es k n s).dxl = s.dxl := rfl
@[simp] theorem passed_dxh : (passed es k n s).dxh = s.dxh := rfl
@[simp] theorem passed_dyl : (passed es k n s).dyl = s.dyl := rfl
@[simp] theorem passed_dyh : (passed es k n s).dyh = s.dyh := rfl
@[simp] theorem passed_upc : (passed es k n s).upc = s.upc + BitVec.ofNat 8 n := rfl
@[simp] theorem passed_fwIdx : (passed es k n s).fwIdx = s.fwIdx := rfl
@[simp] theorem passed_tph : (passed es k n s).tph = s.tph := rfl
@[simp] theorem passed_busCfg : (passed es k n s).busCfg = s.busCfg := rfl
@[simp] theorem passed_csOe : (passed es k n s).csOe = s.csOe := rfl
@[simp] theorem passed_cs : (passed es k n s).cs = s.cs := rfl
@[simp] theorem passed_rxsh : (passed es k n s).rxsh = s.rxsh := rfl
@[simp] theorem passed_trace : (passed es k n s).trace = s.trace ++ es := rfl
@[simp] theorem passed_urom : (passed es k n s).urom = s.urom := rfl
@[simp] theorem passed_inputs : (passed es k n s).inputs = s.inputs := rfl
@[simp] theorem passed_answers : (passed es k n s).answers = s.answers.drop k := rfl
@[simp] theorem passed_draws : (passed es k n s).draws = s.draws + k := rfl
@[simp] theorem passed_slot : (passed es k n s).slot = s.slot := rfl

@[simp] theorem passed_answer : (passed es k n s).answer = fun j => s.answer (k + j) := funext (answer_consume s k)

/-- One stretch after another. -/
@[simp] theorem passed_passed (es' : List Event) (k' n' : Nat) :
    passed es' k' n' (passed es k n s) = passed (es ++ es') (k + k') (n + n') s := by
  simp [passed, Nat.add_assoc, BitVec.add_assoc, BitVec.ofNat_add]

@[simp] theorem passed_nil : passed [] 0 0 s = s := by simp [passed]

/-! The updates in one order: the latches last, then the index, select, and the stretch passed. -/

@[simp] theorem passed_latch (d : Dst) (b : Byte) : passed es k n (latch d b s) = latch d b (passed es k n s) := by
  cases d <;> rfl
@[simp] theorem passed_select (c : Bool) : passed es k n (select c s) = select c (passed es k n s) := rfl
@[simp] theorem passed_index (j : Nat) : passed es k n (index j s) = index j (passed es k n s) := rfl
@[simp] theorem select_latch (c : Bool) (d : Dst) (b : Byte) : select c (latch d b s) = latch d b (select c s) := by
  cases d <;> rfl
@[simp] theorem select_index (c : Bool) (j : Nat) : select c (index j s) = index j (select c s) := rfl
@[simp] theorem index_latch (j : Nat) (d : Dst) (b : Byte) : index j (latch d b s) = latch d b (index j s) := by
  cases d <;> rfl

@[simp] theorem select_select (c c' : Bool) : select c (select c' s) = select c s := rfl
@[simp] theorem index_index (j j' : Nat) : index j (index j' s) = index j s := rfl
@[simp] theorem latch_none (b : Byte) : latch .none b s = s := rfl

theorem select_of_eq {c : Bool} {s : State} (h : s.cs = c) : select c s = s := by subst h; rfl

@[simp] theorem select_answer (c : Bool) : (select c s).answer = s.answer := rfl
@[simp] theorem select_cs (c : Bool) : (select c s).cs = c := rfl
@[simp] theorem select_session (c : Bool) : (select c s).session = s.session := rfl
@[simp] theorem select_busy (c : Bool) : (select c s).busy = s.busy := rfl
@[simp] theorem select_done (c : Bool) : (select c s).done = s.done := rfl
@[simp] theorem select_err (c : Bool) : (select c s).err = s.err := rfl
@[simp] theorem select_arg (c : Bool) : (select c s).arg = s.arg := rfl
@[simp] theorem select_raw (c : Bool) : (select c s).raw = s.raw := rfl
@[simp] theorem select_rdval (c : Bool) : (select c s).rdval = s.rdval := rfl
@[simp] theorem select_upc (c : Bool) : (select c s).upc = s.upc := rfl
@[simp] theorem select_fwIdx (c : Bool) : (select c s).fwIdx = s.fwIdx := rfl
@[simp] theorem select_tph (c : Bool) : (select c s).tph = s.tph := rfl
@[simp] theorem select_busCfg (c : Bool) : (select c s).busCfg = s.busCfg := rfl
@[simp] theorem select_csOe (c : Bool) : (select c s).csOe = s.csOe := rfl
@[simp] theorem select_trace (c : Bool) : (select c s).trace = s.trace := rfl
@[simp] theorem select_urom (c : Bool) : (select c s).urom = s.urom := rfl
@[simp] theorem select_inputs (c : Bool) : (select c s).inputs = s.inputs := rfl
@[simp] theorem select_answers (c : Bool) : (select c s).answers = s.answers := rfl
@[simp] theorem select_draws (c : Bool) : (select c s).draws = s.draws := rfl
@[simp] theorem select_slot (c : Bool) : (select c s).slot = s.slot := rfl

@[simp] theorem index_answer (j : Nat) : (index j s).answer = s.answer := rfl
@[simp] theorem index_fwIdx (j : Nat) : (index j s).fwIdx = j := rfl
@[simp] theorem index_session (j : Nat) : (index j s).session = s.session := rfl
@[simp] theorem index_busy (j : Nat) : (index j s).busy = s.busy := rfl
@[simp] theorem index_done (j : Nat) : (index j s).done = s.done := rfl
@[simp] theorem index_err (j : Nat) : (index j s).err = s.err := rfl
@[simp] theorem index_arg (j : Nat) : (index j s).arg = s.arg := rfl
@[simp] theorem index_raw (j : Nat) : (index j s).raw = s.raw := rfl
@[simp] theorem index_rdval (j : Nat) : (index j s).rdval = s.rdval := rfl
@[simp] theorem index_upc (j : Nat) : (index j s).upc = s.upc := rfl
@[simp] theorem index_tph (j : Nat) : (index j s).tph = s.tph := rfl
@[simp] theorem index_busCfg (j : Nat) : (index j s).busCfg = s.busCfg := rfl
@[simp] theorem index_csOe (j : Nat) : (index j s).csOe = s.csOe := rfl
@[simp] theorem index_trace (j : Nat) : (index j s).trace = s.trace := rfl
@[simp] theorem index_urom (j : Nat) : (index j s).urom = s.urom := rfl
@[simp] theorem index_inputs (j : Nat) : (index j s).inputs = s.inputs := rfl
@[simp] theorem index_answers (j : Nat) : (index j s).answers = s.answers := rfl
@[simp] theorem index_draws (j : Nat) : (index j s).draws = s.draws := rfl
@[simp] theorem index_slot (j : Nat) : (index j s).slot = s.slot := rfl
@[simp] theorem index_cs (j : Nat) : (index j s).cs = s.cs := rfl

end

/-! ### The shared operations, in these updates -/

theorem wait_passed (us : Nat) (s : State) : wait us s = .next (passed [.delay us] 0 1 s) := rfl

theorem selectRelease_passed (s : State) : selectRelease s = .next (select false (passed [.sel false] 0 1 s)) := rfl

theorem selectAssert_passed {s : State} (hoe : s.csOe = true) (hcfg : s.busCfg = true) (hcs : s.cs = false) :
    selectAssert s = .next (select true (passed [.sel true] 0 1 s)) := selectAssert_ok hoe hcfg hcs

/-- What one byte transfer does inside an assertion (R124). -/
theorem transfer_passed {s : State} (hcs : s.cs = true) (hcfg : s.busCfg = true) (dst : Dst) (tx : Byte) :
    transfer dst tx s = .next (latch dst (s.answer 0) (passed [.xfer tx (s.answer 0)] 1 1 s)) := by
  refine (transfer_ok hcs hcfg dst tx).trans (congrArg Host.Outcome.next ?_)
  cases dst <;> rfl

theorem transferFirmware_passed {s : State} (hcs : s.cs = true) (hcfg : s.busCfg = true)
    (h : s.fwIdx < Config.fwLen) :
    transferFirmware s = .next (passed [.xfer (Config.fw s.fwIdx) (s.answer 0)] 1 1 s) :=
  transferFirmware_eq_next.mpr ⟨h, transfer_passed hcs hcfg _ _⟩

/-- The index register does not wrap inside the image (R25, R164). -/
theorem nextIndex_inside {s : State} (h : s.fwIdx < Config.fwLen) : nextIndex s = index (s.fwIdx + 1) s := by
  rw [nextIndex, Nat.mod_eq_of_lt (Nat.lt_of_le_of_lt h fwLen_lt_two_pow)]
  rfl

/-! ### The accesses from idle select on a configured bus -/

/-- A single write as a whole (R142). -/
def written (a : Addr7) (v : Byte) (s : State) : State := passed (writeTrace a v (s.answer 0) (s.answer 1)) 2 6 s

/-- A single read as a whole (R143). -/
def readInto (a : Addr7) (dst : Dst) (s : State) : State :=
  latch dst (s.answer 1) (passed (readTrace a (s.answer 0) (s.answer 1)) 2 6 s)

/-- A report as a whole: answers 3 to 6 in the four latches (R180). -/
def reported (s : State) : State :=
  latch .dyh (s.answer 6) (latch .dyl (s.answer 5) (latch .dxh (s.answer 4) (latch .dxl (s.answer 3)
    (passed (reportTrace s.answer) 7 9 s))))

/-- A firmware burst as a whole (R95, R165). -/
def burst (s : State) : State :=
  index Config.fwLen (passed (burstTrace s.answer) (1 + Config.fwLen) (4 + 2 * Config.fwLen) s)

theorem writeRegister_written (a : Addr7) (src : WrSrc) {s : State} (hoe : s.csOe = true) (hcfg : s.busCfg = true)
    (hcs : s.cs = false) : writeRegister a src s = .next (written a (sourceByte src s) s) := by
  rw [writeRegister_ok a src s hoe hcfg hcs, writeCommand_eq]
  rfl

theorem readRegister_readInto (a : Addr7) (dst : Dst) {s : State} (hoe : s.csOe = true) (hcfg : s.busCfg = true)
    (hcs : s.cs = false) : readRegister a dst s = .next (readInto a dst s) := by
  rw [readRegister_ok a dst s hoe hcfg hcs, readCommand_eq]
  rfl

theorem burstReadOps_reported {s : State} (hoe : s.csOe = true) (hcfg : s.busCfg = true) (hcs : s.cs = false) :
    burstReadOps s = .next (reported s) := by
  refine andThen_eq_next.mpr ⟨_, selectAssert_passed hoe hcfg hcs, ?_⟩
  iterate 7 refine andThen_eq_next.mpr ⟨_, transfer_passed (by simp) (by simpa using hcfg) _ _, ?_⟩
  rw [selectRelease_passed]
  simp [reported, reportTrace, readCommand_eq, select_of_eq, hcs]

/-! ### The image -/

/-- The image bytes from index `j` on, `r` of them, each followed by 15 µs (R165). -/
def imageFrom (j r : Nat) (ans : Nat → Byte) : List Event :=
  (List.range r).flatMap fun i => [.xfer (Config.fw (j + i)) (ans i), .delay 15]

theorem imageFrom_succ (j r : Nat) (ans : Nat → Byte) :
    imageFrom j (r + 1) ans =
      [.xfer (Config.fw j) (ans 0), .delay 15] ++ imageFrom (j + 1) r fun i => ans (1 + i) := by
  simp [imageFrom, List.range_succ_eq_map, List.flatMap_map, Nat.add_assoc, Nat.add_comm 1]

theorem imageFrom_none (j : Nat) (ans : Nat → Byte) : imageFrom j 0 ans = [] := rfl

theorem imageFrom_zero (ans : Nat → Byte) : imageFrom 0 Config.fwLen ans = imageTrace ans := by
  simp [imageFrom, imageTrace]

/-- `r` image bytes sent, with `n` words passed. -/
def sentImage (r n : Nat) (s : State) : State :=
  index (s.fwIdx + r) (passed (imageFrom s.fwIdx r s.answer) r n s)

theorem sentImage_zero (s : State) : sentImage 0 0 s = s := passed_nil s

/-- The image bytes one after the other. -/
theorem sentImage_succ (r n : Nat) (s : State) :
    sentImage (r + 1) (n + 2) s = sentImage r n (sentImage 1 2 s) := by
  simp [sentImage, imageFrom_succ, imageFrom_none, Nat.add_comm, Nat.add_left_comm]

theorem sendImage_sentImage (r : Nat) {s : State} (hcs : s.cs = true) (hcfg : s.busCfg = true)
    (hr : s.fwIdx + r ≤ Config.fwLen) : sendImage r s = .next (sentImage r (2 * r) s) := by
  induction r generalizing s with
  | zero => exact congrArg Host.Outcome.next (sentImage_zero s).symm
  | succ r ih =>
    have hlt : s.fwIdx < Config.fwLen := by omega
    have hpass : nextIndex (passed [.delay 15] 0 1 (passed [.xfer (Config.fw s.fwIdx) (s.answer 0)] 1 1 s)) =
        sentImage 1 2 s := by
      rw [nextIndex_inside (by simpa using hlt)]
      simp [sentImage, imageFrom]
    refine andThen_eq_next.mpr ⟨_, transferFirmware_passed hcs hcfg hlt, ?_⟩
    refine andThen_eq_next.mpr ⟨_, wait_passed _ _, ?_⟩
    rw [hpass, Nat.mul_succ, sentImage_succ r (2 * r) s]
    exact ih (s := sentImage 1 2 s) hcs hcfg (by simp [sentImage]; omega)

theorem burstWriteOps_burst {s : State} (hoe : s.csOe = true) (hcfg : s.busCfg = true) (hcs : s.cs = false) :
    burstWriteOps s = .next (burst s) := by
  have hcmd : writeCommand Config.regSromLoadBurst = 0xE2#8 := by decide
  refine andThen_eq_next.mpr ⟨_, selectAssert_passed (s := index 0 s) hoe hcfg hcs, ?_⟩
  refine andThen_eq_next.mpr ⟨_, transfer_passed (by simp) (by simpa using hcfg) _ _, ?_⟩
  refine andThen_eq_next.mpr ⟨_, wait_passed _ _, ?_⟩
  refine andThen_eq_next.mpr ⟨_, sendImage_sentImage _ (by simp) (by simpa using hcfg) (by simp), ?_⟩
  rw [selectRelease_passed]
  have hwords : 3 + 2 * Config.fwLen + 1 = 4 + 2 * Config.fwLen := by omega
  simp [burst, burstTrace, hcs, hcmd, sentImage, select_of_eq, imageFrom_zero, hwords, Nat.add_comm 1]

/-! ### One operation -/

/-- The machine check that an assertion of select takes, if any (R122). -/
def selectStop (s : State) : Option Fault :=
  if !s.csOe || !s.busCfg then some .unconfigured else if s.cs then some .nestedBegin else none

/-- The machine check that a transfer takes, if any (R124). -/
def transferStop (s : State) : Option Fault :=
  if !s.cs || !s.busCfg then some .unselectedTransfer else none

/-- The machine check that an operation takes, if any (R224). -/
def stop (i : Instr) (s : State) : Option Fault :=
  match i with
  | .csa | .wr _ _ | .rd _ _ | .singleWrite _ _ | .singleRead _ | .burstWrite | .burstRead => selectStop s
  | .txi _ _ | .txr | .txm _ => transferStop s
  | .txf => if Config.fwLen ≤ s.fwIdx then some .fwRange else transferStop s
  | .fin0 | .fin1 => if s.cs then some .finSelected else none
  | .reservedOp0 _ => some .illegalWord
  | .init | .getConfig | .setConfig _ | .getReport | .buscfg | .csout | .csd | .waitu _ | .waitm _ => none
  | .fwz | .fwbr _ | .fwnx _ | .aluDiv200 | .aluMul200 | .aluDec16 => none

/-- A presented command held off, accepted or rejected (R206, R201, R221). -/
def consumed (op : BitVec 2) (n : Half) (s : State) : State :=
  if s.busy then s else if admitted op s.session then accept op n s else { s with err := true }

/-- What an operation does where it goes on. -/
def effect (i : Instr) (s : State) : State :=
  match i with
  | .init => consumed 0b00#2 0#16 s
  | .getConfig => consumed 0b01#2 0#16 s
  | .setConfig n => consumed 0b10#2 n s
  | .getReport => consumed 0b11#2 0#16 s
  | .buscfg => passed [.cfg] 0 1 { s with busCfg := true }
  | .csout => passed [.oe] 0 1 { s with csOe := true }
  | .csa => select true (passed [.sel true] 0 1 s)
  | .csd => select false (passed [.sel false] 0 1 s)
  | .txi dst _ => latch dst (s.answer 0) (passed [.xfer (transmitByte i s) (s.answer 0)] 1 1 s)
  | .txf | .txr | .txm _ => passed [.xfer (transmitByte i s) (s.answer 0)] 1 1 s
  | .waitu n => passed [.delay n.toNat] 0 1 s
  | .waitm n => passed [.delay (1000 * n.toNat)] 0 1 s
  | .fwz => advance (index 0 s)
  | .fwbr t => if s.fwIdx = Config.fwLen then jump t s else advance s
  | .fwnx t => jump t (nextIndex s)
  | .aluDiv200 => advance { s with raw := quantise s.arg }
  | .aluMul200 => advance { s with cpi := scale s.rdval }
  | .aluDec16 => advance { s with x := assemble s.dxh s.dxl, y := assemble s.dyh s.dyl }
  | .fin0 => { s with busy := false, done := true }
  | .fin1 => { s with session := .ready, busy := false, done := true }
  | .reservedOp0 _ => s
  | .wr a src => written a (sourceByte src s) s
  | .rd a dst => readInto a dst s
  | .singleWrite a v => jump s.upc (written a v s)
  | .singleRead a => jump s.upc (readInto a .rdval s)
  | .burstWrite => jump s.upc (burst s)
  | .burstRead => jump s.upc (reported s)

/-- A machine check, or else the next state. -/
def outcome (r : Option Fault) (t : State) : Result :=
  match r with
  | none => .next t
  | some f => .fault f

theorem outcome_eq_next {r : Option Fault} {t u : State} : outcome r t = .next u ↔ r = none ∧ t = u := by
  cases r <;> simp [outcome]

theorem outcome_eq_fault {r : Option Fault} {t : State} {f : Fault} : outcome r t = .fault f ↔ r = some f := by
  cases r <;> simp [outcome]

theorem selectStop_eq_none {s : State} : selectStop s = none ↔ s.csOe = true ∧ s.busCfg = true ∧ s.cs = false := by
  cases hoe : s.csOe <;> cases hcfg : s.busCfg <;> simp [selectStop, hoe, hcfg]

theorem transferStop_eq_none {s : State} : transferStop s = none ↔ s.cs = true ∧ s.busCfg = true := by
  cases hcs : s.cs <;> simp [transferStop, hcs]

theorem selectStop_eq_some {s : State} {f : Fault} :
    selectStop s = some f ↔
      (f = .unconfigured ∧ (s.csOe = false ∨ s.busCfg = false)) ∨
        (f = .nestedBegin ∧ s.csOe = true ∧ s.busCfg = true ∧ s.cs = true) := by
  cases hoe : s.csOe <;> cases hcfg : s.busCfg <;> cases hcs : s.cs <;>
    simp [selectStop, hoe, hcfg, hcs, eq_comm]

theorem transferStop_eq_some {s : State} {f : Fault} :
    transferStop s = some f ↔ f = .unselectedTransfer ∧ (s.cs = false ∨ s.busCfg = false) := by
  cases hcs : s.cs <;> cases hcfg : s.busCfg <;> simp [transferStop, hcs, hcfg, eq_comm]

theorem selectAssert_outcome (s : State) :
    selectAssert s = outcome (selectStop s) (select true (passed [.sel true] 0 1 s)) := by
  unfold selectAssert selectStop
  split_ifs <;> rfl

theorem transfer_outcome (dst : Dst) (tx : Byte) (s : State) :
    transfer dst tx s =
      outcome (transferStop s) (latch dst (s.answer 0) (passed [.xfer tx (s.answer 0)] 1 1 s)) := by
  unfold transfer transferStop
  split_ifs
  · rfl
  · cases dst <;> rfl

theorem consumeCommand_consumed (op : BitVec 2) (n : Half) (s : State) :
    consumeCommand op n s = .next (consumed op n s) := by
  unfold consumeCommand consumed
  split_ifs <;> rfl

/-- An access stops where select may not be asserted, and goes on as given from idle select on a configured bus. -/
theorem access_outcome {ops : State → Result} {s t : State}
    (hstop : ∀ f, selectAssert s = .fault f → ops s = .fault f)
    (hok : s.csOe = true → s.busCfg = true → s.cs = false → ops s = .next t) :
    ops s = outcome (selectStop s) t := by
  cases h : selectStop s with
  | some f => exact hstop f ((selectAssert_outcome s).trans (outcome_eq_fault.mpr h))
  | none =>
    obtain ⟨hoe, hcfg, hcs⟩ := selectStop_eq_none.mp h
    exact hok hoe hcfg hcs

/-- A frame does what its operations do, with `UPC` put back. -/
theorem frame_outcome {ops : State → Result} {s t : State} {r : Option Fault} (h : ops s = outcome r t) :
    frame ops s = outcome r (jump s.upc t) := by
  rw [frame, h]
  cases r <;> rfl

theorem writeRegister_outcome (a : Addr7) (src : WrSrc) (s : State) :
    writeRegister a src s = outcome (selectStop s) (written a (sourceByte src s) s) :=
  access_outcome (fun _ => writeRegister_fault) (writeRegister_written a src)

theorem readRegister_outcome (a : Addr7) (dst : Dst) (s : State) :
    readRegister a dst s = outcome (selectStop s) (readInto a dst s) :=
  access_outcome (fun _ => readRegister_fault) (readRegister_readInto a dst)

theorem burstWriteOps_outcome (s : State) : burstWriteOps s = outcome (selectStop s) (burst s) := by
  refine access_outcome (fun f h => ?_) burstWriteOps_burst
  have h' : selectAssert { s with fwIdx := 0 } = .fault f := by
    rw [selectAssert_outcome] at h ⊢
    exact outcome_eq_fault.mpr (outcome_eq_fault.mp h)
  simp [burstWriteOps, h']

theorem burstReadOps_outcome (s : State) : burstReadOps s = outcome (selectStop s) (reported s) :=
  access_outcome (fun f h => by simp [burstReadOps, h]) burstReadOps_reported

theorem finish_outcome (n : Session) (s : State) :
    finish n s = outcome (if s.cs then some .finSelected else none)
      { s with session := n, busy := false, done := true } := by
  unfold finish
  split_ifs <;> rfl

/-- Every operation takes its machine check, or else has its effect. -/
theorem exec_outcome (i : Instr) (s : State) : exec i s = outcome (stop i s) (effect i s) := by
  cases i with
  | init | getConfig | setConfig n | getReport => exact consumeCommand_consumed _ _ s
  | buscfg | csout | csd | waitu n | waitm n | fwz | fwbr t | fwnx t | aluDiv200 | aluMul200 | aluDec16 => rfl
  | reservedOp0 low => rfl
  | csa => exact selectAssert_outcome s
  | txi dst imm => exact transfer_outcome dst imm s
  | txr => exact transfer_outcome .none s.raw s
  | txm mask => exact transfer_outcome .none (s.rdval &&& mask) s
  | txf =>
    show transferFirmware s = outcome (if Config.fwLen ≤ s.fwIdx then some .fwRange else transferStop s) _
    unfold transferFirmware
    split_ifs
    · rfl
    · exact transfer_outcome .none (Config.fw s.fwIdx) s
  | fin0 => exact finish_outcome s.session s
  | fin1 => exact finish_outcome .ready s
  | wr a src => exact writeRegister_outcome a src s
  | rd a dst => exact readRegister_outcome a dst s
  | singleWrite a v => exact frame_outcome (writeRegister_outcome a (.imm v) s)
  | singleRead a => exact frame_outcome (readRegister_outcome a .rdval s)
  | burstWrite => exact frame_outcome (burstWriteOps_outcome s)
  | burstRead => exact frame_outcome (burstReadOps_outcome s)

theorem exec_eq_next {i : Instr} {s t : State} : exec i s = .next t ↔ stop i s = none ∧ effect i s = t := by
  rw [exec_outcome, outcome_eq_next]

theorem exec_eq_fault {i : Instr} {s : State} {f : Fault} : exec i s = .fault f ↔ stop i s = some f := by
  rw [exec_outcome, outcome_eq_fault]

/-- Every operation has a meaning. -/
theorem exec_ne_refused (i : Instr) (s : State) (r : Refusal) : exec i s ≠ .refused r := by
  rw [exec_outcome]
  cases stop i s <;> exact nofun

theorem exec_of_stop_eq_none {i : Instr} {s : State} (h : stop i s = none) : exec i s = .next (effect i s) :=
  exec_eq_next.mpr ⟨h, rfl⟩

end Sys2Proof.Machine

/-! ## Proofs: rules over all operations

Frames, the micro-program counter, events, causes of machine checks and what may depend on the sensor: each is read off
`effect` and `stop`, update by update. -/

namespace Sys2Proof.Machine

/-! ### What every operation leaves alone -/

/-- What no operation touches: the ports to come, the slot and the micro-program. -/
def State.host (s : State) : List Ports × Option TableWord × Memory := (s.inputs, s.slot, s.urom)

@[simp] theorem passed_host (es : List Event) (k n : Nat) (s : State) : (passed es k n s).host = s.host := rfl
@[simp] theorem select_host (c : Bool) (s : State) : (select c s).host = s.host := rfl
@[simp] theorem index_host (j : Nat) (s : State) : (index j s).host = s.host := rfl
@[simp] theorem advance_host (s : State) : (advance s).host = s.host := rfl
@[simp] theorem jump_host (t : Byte) (s : State) : (jump t s).host = s.host := rfl
@[simp] theorem nextIndex_host (s : State) : (nextIndex s).host = s.host := rfl
@[simp] theorem latch_host (d : Dst) (b : Byte) (s : State) : (latch d b s).host = s.host := by cases d <;> rfl

@[simp] theorem written_host (a : Addr7) (v : Byte) (s : State) : (written a v s).host = s.host := rfl
@[simp] theorem readInto_host (a : Addr7) (d : Dst) (s : State) : (readInto a d s).host = s.host := by
  simp [readInto]
@[simp] theorem burst_host (s : State) : (burst s).host = s.host := by simp [burst]
@[simp] theorem reported_host (s : State) : (reported s).host = s.host := by simp [reported]

@[simp] theorem consumed_host (op : BitVec 2) (n : Half) (s : State) : (consumed op n s).host = s.host := by
  unfold consumed
  split_ifs <;> rfl

theorem effect_host (i : Instr) (s : State) : (effect i s).host = s.host := by
  cases i with
  | buscfg | csout | aluDiv200 | aluMul200 | aluDec16 | fin0 | fin1 | reservedOp0 low => rfl
  | fwbr t =>
    simp only [effect]
    split_ifs <;> simp
  | _ => simp [effect]

theorem exec_host {i : Instr} {s t : State} (h : exec i s = .next t) : t.host = s.host := by
  obtain ⟨-, rfl⟩ := exec_eq_next.mp h
  exact effect_host i s

theorem exec_inputs {i : Instr} {s t : State} (h : exec i s = .next t) : t.inputs = s.inputs :=
  congrArg (fun e => e.1) (exec_host h)

theorem exec_slot {i : Instr} {s t : State} (h : exec i s = .next t) : t.slot = s.slot :=
  congrArg (fun e => e.2.1) (exec_host h)

theorem exec_urom {i : Instr} {s t : State} (h : exec i s = .next t) : t.urom = s.urom :=
  congrArg (fun e => e.2.2) (exec_host h)

/-- A step that goes on is a reset edge, an operation, or nothing (R227). -/
theorem stepWith_cases {p : Ports} {s t : State} (h : stepWith p s = .next t) :
    (p.rst = true ∧ t = resetEdge s) ∨
      (p.rst = false ∧ ((∃ i, exec i { s with slot := none } = .next t) ∨ t = s)) := by
  cases hp : p.rst with
  | true =>
    cases (stepWith_reset hp s).symm.trans h
    exact .inl ⟨rfl, rfl⟩
  | false =>
    refine .inr ⟨rfl, ?_⟩
    cases hs : s.slot with
    | some e =>
      rw [stepWith_slot hp hs, runSlot] at h
      split at h
      · exact .inl ⟨_, h⟩
      · cases h
    | none =>
      have hsame : { s with slot := none } = s := by rw [← hs]
      rw [hsame]
      cases hb : s.busy with
      | true =>
        rw [stepWith_busy hp hs hb] at h
        cases hf : fetch s with
        | ok i => exact .inl ⟨i, (runWord_ok hf).symm.trans h⟩
        | error r => cases (runWord_error hf).symm.trans h
      | false =>
        cases hv : p.cmdValid with
        | true => exact .inl ⟨_, (stepWith_command hp hs hb hv).symm.trans h⟩
        | false =>
          cases (stepWith_nothing hp hs hb hv).symm.trans h
          exact .inr rfl

theorem step_urom {s t : State} (h : step s = .next t) : t.urom = s.urom := by
  rcases stepWith_cases h with ⟨-, rfl⟩ | ⟨-, ⟨i, hi⟩ | rfl⟩
  · rfl
  · exact (exec_urom hi).trans rfl
  · rfl

/-- Settles O8: the list of stored bytes itself is kept. -/
theorem microProgramIsReadOnly : Obligations.MicroProgramIsReadOnly :=
  ⟨fun _ _ _ h _ => by rw [exec_urom h], fun _ _ h _ => by rw [step_urom h]⟩

/-! ### Which register an update writes -/

section
variable (s : State) {r : Reg}

theorem passed_reg (es : List Event) (k n : Nat) (h : r ≠ .upc) : (passed es k n s).reg r = s.reg r := by
  cases r <;> simp_all [State.reg]

theorem advance_reg (h : r ≠ .upc) : (advance s).reg r = s.reg r := by
  cases r <;> simp_all [State.reg]

theorem jump_reg (t : Byte) (h : r ≠ .upc) : (jump t s).reg r = s.reg r := by
  cases r <;> simp_all [State.reg]

theorem select_reg (c : Bool) (h : r ≠ .cs) : (select c s).reg r = s.reg r := by
  cases r <;> simp_all [State.reg, select]

theorem index_reg (j : Nat) (h : r ≠ .fwIdx) : (index j s).reg r = s.reg r := by
  cases r <;> simp_all [State.reg, index]

theorem latch_reg (d : Dst) (b : Byte) (h : d = .none ∨ r.asDst ≠ some d) : (latch d b s).reg r = s.reg r := by
  cases d <;> cases r <;> simp_all [State.reg, Reg.asDst]

/-- Acceptance and rejection write the flags, `UPC` and `TPH`; INIT also the session, SET_CONFIG also `ARG`. -/
theorem consumed_reg (op : BitVec 2) (n : Half) (hflags : r ∉ [Reg.busy, .done, .err, .upc, .tph])
    (hsession : op = 0b00#2 → r ≠ .session) (harg : op = 0b10#2 → r ≠ .arg) : (consumed op n s).reg r = s.reg r := by
  unfold consumed
  split_ifs <;> cases r <;> simp_all [State.reg]

/-- With `UPC` put back, what an update does to `UPC` does not matter. -/
theorem putBack_reg {t : State} (h : r ≠ .upc → t.reg r = s.reg r) : (jump s.upc t).reg r = s.reg r := by
  by_cases hr : r = .upc
  · rw [hr]
    rfl
  · exact (jump_reg t s.upc hr).trans (h hr)

theorem written_reg (a : Addr7) (v : Byte) (h : r ≠ .upc) : (written a v s).reg r = s.reg r :=
  passed_reg s _ _ _ h

theorem readInto_reg (a : Addr7) (d : Dst) (hd : d = .none ∨ r.asDst ≠ some d) (h : r ≠ .upc) :
    (readInto a d s).reg r = s.reg r :=
  (latch_reg _ d _ hd).trans (passed_reg s _ _ _ h)

theorem burst_reg (hidx : r ≠ .fwIdx) (h : r ≠ .upc) : (burst s).reg r = s.reg r :=
  (index_reg _ _ hidx).trans (passed_reg s _ _ _ h)

theorem reported_reg (hd : r ∉ [Reg.dxl, .dxh, .dyl, .dyh]) (h : r ≠ .upc) : (reported s).reg r = s.reg r := by
  have hlatch : r.asDst ≠ some .dxl ∧ r.asDst ≠ some .dxh ∧ r.asDst ≠ some .dyl ∧ r.asDst ≠ some .dyh := by
    cases r <;> simp_all [Reg.asDst]
  obtain ⟨hxl, hxh, hyl, hyh⟩ := hlatch
  rw [reported, latch_reg _ _ _ (.inr hyh), latch_reg _ _ _ (.inr hyl), latch_reg _ _ _ (.inr hxh),
    latch_reg _ _ _ (.inr hxl), passed_reg _ _ _ _ h]

end

/-- The effect of an operation on a register that is not in its "written by" entry. -/
theorem effect_reg {i : Instr} {r : Reg} (h : writers i r = false) (s : State) : (effect i s).reg r = s.reg r := by
  cases i with simp only [writers, List.mem_cons, List.not_mem_nil, or_false, not_or, decide_eq_false_iff_not,
    Bool.or_eq_false_iff] at h
  | init => exact consumed_reg s _ _ (by simp [h]) (fun _ => h.1) (fun e => absurd e (by decide))
  | getConfig | getReport =>
    exact consumed_reg s _ _ (by simp [h]) (fun e => absurd e (by decide)) (fun e => absurd e (by decide))
  | setConfig n => exact consumed_reg s _ _ (by simp [h]) (fun e => absurd e (by decide)) (fun _ => h.2.2.2.2.2)
  | buscfg | csout | aluDiv200 | aluMul200 | aluDec16 | fin0 | fin1 => cases r <;> simp_all [effect, State.reg]
  | csa | csd => exact (select_reg _ _ h.1).trans (passed_reg s _ _ _ h.2)
  | txi dst imm =>
    obtain ⟨hupc, hdst⟩ := h
    exact (latch_reg _ dst _ (by by_cases hn : dst = .none <;> simp_all)).trans (passed_reg s _ _ _ hupc)
  | txf | txr | txm mask | waitu n | waitm n => exact passed_reg s _ _ _ h
  | fwz => exact (advance_reg _ h.2).trans (index_reg s _ h.1)
  | fwbr t =>
    simp only [effect]
    split_ifs
    · exact jump_reg s t h
    · exact advance_reg s h
  | fwnx t => exact (jump_reg _ t h.2).trans (index_reg s _ h.1)
  | reservedOp0 low => rfl
  | wr a src => exact written_reg s a _ h.2
  | rd a dst =>
    obtain ⟨⟨-, hupc⟩, hdst⟩ := h
    exact readInto_reg s a dst (by by_cases hn : dst = .none <;> simp_all) hupc
  | singleWrite a v => exact putBack_reg s fun hupc => written_reg s a v hupc
  | singleRead a =>
    refine putBack_reg s fun hupc => readInto_reg s a .rdval (.inr ?_) hupc
    cases r <;> simp_all [Reg.asDst]
  | burstWrite => exact putBack_reg s fun hupc => burst_reg s h.2 hupc
  | burstRead => exact putBack_reg s fun hupc => reported_reg s (by simp [h]) hupc

/-- Settles O36: an operation's effect on the registers, and the fields no operation touches. -/
theorem registersHaveOnlyTheirWriters : Obligations.RegistersHaveOnlyTheirWriters := by
  intro i s t h
  refine ⟨fun r hr => ?_, exec_inputs h, exec_slot h, fun a => by rw [exec_urom h]⟩
  obtain ⟨-, rfl⟩ := exec_eq_next.mp h
  exact effect_reg hr s

/-! ### Micro-operations: counter, events, answers, machine checks -/

/-- The operations that are one word of the micro-program. -/
def isWord : Instr → Bool
  | .init | .getConfig | .setConfig _ | .getReport => false
  | .wr _ _ | .rd _ _ | .singleWrite _ _ | .singleRead _ | .burstWrite | .burstRead => false
  | _ => true

theorem isWord_of_decodeW16 {w : Half} {i : Instr} (h : decodeW16 w = .ok i) : isWord i = true := by
  have hw := (encode_of_decodeW16 h).1
  cases i with
  | init | getConfig | setConfig _ | getReport | wr _ _ | rd _ _ | singleWrite _ _ | singleRead _ | burstWrite
  | burstRead => exact nomatch hw
  | _ => rfl

/-- Where a micro-operation leaves `UPC` (R24, R204). -/
def nextWord (i : Instr) (s : State) : Byte :=
  match i with
  | .fwnx t => t
  | .fwbr t => if s.fwIdx = Config.fwLen then t else s.upc + 1#8
  | .fin0 | .fin1 => s.upc
  | _ => s.upc + 1#8

/-- The event a micro-operation records, if any (R11). -/
def eventOf (i : Instr) (s : State) : Option Event :=
  match i with
  | .buscfg => some .cfg
  | .csout => some .oe
  | .csa => some (.sel true)
  | .csd => some (.sel false)
  | .txi _ _ | .txf | .txr | .txm _ => some (.xfer (transmitByte i s) (s.answer 0))
  | .waitu n => some (.delay n.toNat)
  | .waitm n => some (.delay (1000 * n.toNat))
  | _ => none

/-- How many answers a micro-operation consumes (R124). -/
def answersOf (i : Instr) : Nat := if isTransfer i then 1 else 0

/-- What a micro-operation that goes on does to the counter, the trace and the answers. -/
theorem exec_word {i : Instr} {s t : State} (hw : isWord i = true) (h : exec i s = .next t) :
    t.upc = nextWord i s ∧ t.trace = s.trace ++ (eventOf i s).toList ∧
      t.draws = s.draws + answersOf i ∧ t.answers = s.answers.drop (answersOf i) := by
  obtain ⟨hstop, rfl⟩ := exec_eq_next.mp h
  cases i with
  | init | getConfig | setConfig _ | getReport | wr _ _ | rd _ _ | singleWrite _ _ | singleRead _ | burstWrite
  | burstRead => exact nomatch hw
  | reservedOp0 low => exact nomatch hstop
  | fwbr t => by_cases hsent : s.fwIdx = Config.fwLen <;> simp [effect, nextWord, eventOf, answersOf, isTransfer, hsent]
  | _ => simp [effect, nextWord, eventOf, answersOf, isTransfer]

/-- Settles O37: `nextWord`, case by case. -/
theorem programCounterRules : Obligations.ProgramCounterRules := by
  intro w i s t hw h
  rw [(exec_word (isWord_of_decodeW16 hw) h).1]
  refine ⟨?_, ?_, ?_, fun hnx hbr h0 h1 => ?_⟩
  · rintro x rfl; rfl
  · rintro x rfl; rfl
  · rintro (rfl | rfl) <;> rfl
  · cases i with
    | fwnx x => exact absurd rfl (hnx x)
    | fwbr x => exact absurd rfl (hbr x)
    | fin0 => exact absurd rfl h0
    | fin1 => exact absurd rfl h1
    | _ => rfl

theorem eventOf_of_isTransfer {i : Instr} (h : isTransfer i = true) (s : State) :
    eventOf i s = some (.xfer (transmitByte i s) (s.answer 0)) := by
  cases i with
  | txi _ _ | txf | txr | txm _ => rfl
  | _ => exact nomatch h

theorem eventOf_ne_xfer {i : Instr} (h : isTransfer i = false) (s : State) (tx rx : Byte) :
    eventOf i s ≠ some (.xfer tx rx) := by
  cases i with
  | txi _ _ | txf | txr | txm _ => exact nomatch h
  | _ => exact nofun

/-- Settles O38: at most one event, and an answer consumed by a transfer alone. -/
theorem oneEventPerMicroOperation : Obligations.OneEventPerMicroOperation := by
  intro w i s t hw h
  obtain ⟨-, htrace, hdraws, hanswers⟩ := exec_word (isWord_of_decodeW16 hw) h
  refine ⟨?_, fun hi => ?_, fun hi => ?_⟩
  · rw [htrace]
    cases eventOf i s with
    | none => exact .inl (List.append_nil _)
    | some e => exact .inr ⟨e, rfl⟩
  · rw [eventOf_of_isTransfer hi] at htrace
    rw [answersOf, if_pos hi] at hdraws hanswers
    exact ⟨_, htrace, hdraws, hanswers⟩
  · rw [answersOf, hi] at hdraws hanswers
    refine ⟨hdraws, hanswers, fun tx rx hx => eventOf_ne_xfer hi s tx rx ?_⟩
    have hlist := List.append_cancel_left (htrace.symm.trans hx)
    cases he : eventOf i s with
    | none => simp [he] at hlist
    | some e => simpa [he] using hlist

/-- Settles O42: the machine checks of `stop`, case by case. -/
theorem machineCheckCauses : Obligations.MachineCheckCauses := by
  intro w i s f hw h
  have hstop := exec_eq_fault.mp h
  have hword := isWord_of_decodeW16 hw
  have htransfer : isTransfer i = true → transferStop s = some f →
      f = .unselectedTransfer ∧ isTransfer i = true ∧ (s.cs = false ∨ s.busCfg = false) := by
    intro hi hs
    obtain ⟨hf, hsel⟩ := transferStop_eq_some.mp hs
    exact ⟨hf, hi, hsel⟩
  cases i with
  | reservedOp0 low => exact .inl ⟨(Option.some.inj hstop).symm, low, rfl⟩
  | csa =>
    rcases selectStop_eq_some.mp hstop with ⟨hf, hset⟩ | ⟨hf, -, -, hcs⟩
    · exact .inr (.inl ⟨hf, rfl, hset⟩)
    · exact .inr (.inr (.inl ⟨hf, rfl, hcs⟩))
  | txi _ _ | txr | txm _ => exact .inr (.inr (.inr (.inl (htransfer rfl hstop))))
  | txf =>
    simp only [stop] at hstop
    split_ifs at hstop with hidx
    · exact .inr (.inr (.inr (.inr (.inl ⟨(Option.some.inj hstop).symm, rfl, hidx⟩))))
    · exact .inr (.inr (.inr (.inl (htransfer rfl hstop))))
  | fin0 =>
    simp only [stop] at hstop
    split_ifs at hstop with hcs
    exact .inr (.inr (.inr (.inr (.inr ⟨(Option.some.inj hstop).symm, .inl rfl, hcs⟩))))
  | fin1 =>
    simp only [stop] at hstop
    split_ifs at hstop with hcs
    exact .inr (.inr (.inr (.inr (.inr ⟨(Option.some.inj hstop).symm, .inr rfl, hcs⟩))))
  | init | getConfig | setConfig _ | getReport | wr _ _ | rd _ _ | singleWrite _ _ | singleRead _ | burstWrite
  | burstRead => exact nomatch hword
  | _ => simp [stop] at hstop

/-! ### The session never returns to UNINIT -/

theorem consumed_session (op : BitVec 2) (n : Half) (s : State) :
    (consumed op n s).session = s.session ∨ (consumed op n s).session = .initializing := by
  unfold consumed
  split_ifs
  · exact .inl rfl
  · rw [accept_session]
    split_ifs
    · exact .inr rfl
    · exact .inl rfl
  · exact .inl rfl

/-- An operation leaves the session, or moves it on (R28). -/
theorem effect_session (i : Instr) (s : State) :
    (effect i s).session = s.session ∨ (effect i s).session = .initializing ∨ (effect i s).session = .ready := by
  cases i with
  | init | getConfig | setConfig n | getReport => exact (consumed_session _ _ s).imp_right .inl
  | fin1 => exact .inr (.inr rfl)
  | fwbr t => by_cases hsent : s.fwIdx = Config.fwLen <;> simp [effect, hsent]
  | _ => simp [effect, written, readInto, burst, reported]

/-- Settles O41: no operation leads to UNINIT, and without reset a step is an operation or nothing. -/
theorem noWayBackToUninit : Obligations.NoWayBackToUninit := by
  intro s t h hp hs
  rcases stepWith_cases h with ⟨hp', -⟩ | ⟨-, ⟨i, hi⟩ | rfl⟩
  · exact absurd (hp.symm.trans hp') (by decide)
  · obtain ⟨-, rfl⟩ := exec_eq_next.mp hi
    rcases effect_session i { sampled s with slot := none } with hsame | hinit | hready
    · exact fun hu => hs (hsame.symm.trans hu)
    · exact fun hu => nomatch hinit.symm.trans hu
    · exact fun hu => nomatch hready.symm.trans hu
  · exact hs

/-! ### What may depend on the sensor (R204, R220) -/

namespace SameControl

variable {s u : State} (h : SameControl s u)
include h

/-- Stretches that record the same kinds of events. -/
theorem passed {es es' : List Event} (he : es.map Event.kind = es'.map Event.kind) (k k' n : Nat) :
    SameControl (passed es k n s) (Machine.passed es' k' n u) :=
  { h with
    upc := congrArg (· + BitVec.ofNat 8 n) h.upc
    kinds := by simp [h.kinds, he] }

theorem select (c : Bool) : SameControl (select c s) (Machine.select c u) := { h with cs := rfl }

theorem index (j : Nat) : SameControl (index j s) (Machine.index j u) := { h with fwIdx := rfl }

theorem advance : SameControl (advance s) (Machine.advance u) := { h with upc := congrArg (· + 1#8) h.upc }

theorem jump (t : Byte) : SameControl (jump t s) (Machine.jump t u) := { h with upc := rfl }

theorem nextIndex : SameControl (nextIndex s) (Machine.nextIndex u) :=
  { h with fwIdx := congrArg (fun k => (k + 1) % 2 ^ Config.fwAw) h.fwIdx }

theorem putBack {t v : State} (ht : SameControl t v) :
    SameControl (Machine.jump s.upc t) (Machine.jump u.upc v) := { ht with upc := h.upc }

/-- The latches are no part of the control. -/
theorem latch (d : Dst) (b b' : Byte) : SameControl (latch d b s) (Machine.latch d b' u) := by
  cases d <;> exact { h with }

theorem accept (op : BitVec 2) (n : Half) : SameControl (accept op n s) (Machine.accept op n u) :=
  { h with
    busy := rfl, done := rfl, upc := rfl, tph := rfl
    session := congrArg (fun q => if op = 0b00#2 then Session.initializing else q) h.session
    arg := congrArg (fun q => if op = 0b10#2 then n else q) h.arg }

theorem consumed (op : BitVec 2) (n : Half) : SameControl (consumed op n s) (Machine.consumed op n u) := by
  unfold Machine.consumed
  by_cases hb : u.busy = true
  · rw [if_pos hb, if_pos (h.busy.trans hb)]
    exact h
  · rw [if_neg hb, if_neg (h.busy ▸ hb)]
    by_cases ha : admitted op u.session = true
    · rw [if_pos ha, if_pos (h.session ▸ ha)]
      exact h.accept op n
    · rw [if_neg ha, if_neg (h.session ▸ ha)]
      exact { h with err := rfl }

theorem sampled : SameControl (sampled s) (Machine.sampled u) := { h with inputs := congrArg List.tail h.inputs }

theorem resetEdge : SameControl (resetEdge s) (Machine.resetEdge u) where
  session := rfl
  busy := rfl
  done := rfl
  err := rfl
  arg := rfl
  raw := rfl
  upc := rfl
  fwIdx := rfl
  tph := rfl
  busCfg := rfl
  csOe := rfl
  cs := rfl
  kinds := rfl
  urom := h.urom
  inputs := h.inputs
  slot := rfl

/-- Whether an operation stops does not depend on the sensor. -/
theorem stop (i : Instr) : stop i s = Machine.stop i u := by
  have hsel : selectStop s = selectStop u := by simp only [selectStop, h.csOe, h.busCfg, h.cs]
  have htr : transferStop s = transferStop u := by simp only [transferStop, h.busCfg, h.cs]
  cases i <;> simp only [Machine.stop, hsel, htr, h.fwIdx, h.cs]

end SameControl

theorem imageTrace_kinds (ans ans' : Nat → Byte) :
    (imageTrace ans).map Event.kind = (imageTrace ans').map Event.kind := by
  simp [imageTrace, List.map_flatMap, Event.kind]

/-- The kinds of the events of a burst do not depend on the answers. -/
theorem burstTrace_kinds (ans ans' : Nat → Byte) :
    (burstTrace ans).map Event.kind = (burstTrace ans').map Event.kind := by
  simp only [burstTrace, List.map_append, imageTrace_kinds _ fun i => ans' (i + 1)]
  rfl

namespace SameControl

variable {s u : State} (h : SameControl s u)
include h

theorem sent (tx tx' rx rx' : Byte) :
    SameControl (Machine.passed [.xfer tx rx] 1 1 s) (Machine.passed [.xfer tx' rx'] 1 1 u) :=
  h.passed (by rfl) _ _ _

theorem recorded (es : List Event) (n : Nat) : SameControl (Machine.passed es 0 n s) (Machine.passed es 0 n u) :=
  h.passed rfl _ _ _

theorem written (a : Addr7) (v v' : Byte) : SameControl (written a v s) (Machine.written a v' u) :=
  h.passed (by rfl) _ _ _

theorem readInto (a : Addr7) (d : Dst) : SameControl (readInto a d s) (Machine.readInto a d u) :=
  SameControl.latch (h.passed (by rfl) _ _ _) d _ _

theorem burst : SameControl (burst s) (Machine.burst u) := (h.passed (burstTrace_kinds _ _) _ _ _).index _

theorem reported : SameControl (reported s) (Machine.reported u) :=
  (((SameControl.latch (h.passed (by rfl) _ _ _) .dxl _ _).latch .dxh _ _).latch .dyl _ _).latch .dyh _ _

/-- What an operation does to the control does not depend on the sensor. -/
theorem effect (i : Instr) : SameControl (effect i s) (Machine.effect i u) := by
  cases i with
  | init | getConfig | setConfig n | getReport => exact h.consumed _ _
  | buscfg =>
    have hset : SameControl { s with busCfg := true } { u with busCfg := true } := { h with busCfg := rfl }
    exact hset.recorded _ _
  | csout =>
    have hset : SameControl { s with csOe := true } { u with csOe := true } := { h with csOe := rfl }
    exact hset.recorded _ _
  | csa => exact (h.recorded _ _).select true
  | csd => exact (h.recorded _ _).select false
  | txi dst imm => exact (h.sent _ _ _ _).latch dst _ _
  | txf | txr | txm mask => exact h.sent _ _ _ _
  | waitu n | waitm n => exact h.recorded _ _
  | fwz => exact (h.index 0).advance
  | fwbr t =>
    simp only [Machine.effect, h.fwIdx]
    split_ifs
    · exact h.jump t
    · exact h.advance
  | fwnx t => exact h.nextIndex.jump t
  | aluDiv200 =>
    have hset : SameControl { s with raw := quantise s.arg } { u with raw := quantise u.arg } :=
      { h with raw := congrArg quantise h.arg }
    exact hset.advance
  | aluMul200 =>
    have hset : SameControl { s with cpi := scale s.rdval } { u with cpi := scale u.rdval } := { h with }
    exact hset.advance
  | aluDec16 =>
    have hset : SameControl { s with x := assemble s.dxh s.dxl, y := assemble s.dyh s.dyl }
        { u with x := assemble u.dxh u.dxl, y := assemble u.dyh u.dyl } := { h with }
    exact hset.advance
  | fin0 => exact { h with busy := rfl, done := rfl }
  | fin1 => exact { h with session := rfl, busy := rfl, done := rfl }
  | reservedOp0 low => exact h
  | wr a src => exact h.written a _ _
  | rd a dst => exact h.readInto a dst
  | singleWrite a v => exact h.putBack (h.written a v v)
  | singleRead a => exact h.putBack (h.readInto a .rdval)
  | burstWrite => exact h.putBack h.burst
  | burstRead => exact h.putBack h.reported

end SameControl

/-- Two outcomes that differ at most in what the sensor has answered. -/
inductive Alike : Result → Result → Prop where
  | next {t v : State} (h : SameControl t v) : Alike (.next t) (.next v)
  | fault (f : Fault) : Alike (.fault f) (.fault f)
  | refused (r : Refusal) : Alike (.refused r) (.refused r)

theorem alike_exec (i : Instr) {s u : State} (h : SameControl s u) : Alike (exec i s) (exec i u) := by
  rw [exec_outcome, exec_outcome, h.stop i]
  cases stop i u with
  | none => exact .next (h.effect i)
  | some f => exact .fault f

theorem alike_runWord {s u : State} (h : SameControl s u) : Alike (runWord s) (runWord u) := by
  have hfetch : fetch s = fetch u := by simp only [fetch, h.urom, h.upc]
  cases hu : fetch u with
  | ok i =>
    rw [runWord_ok hu, runWord_ok (hfetch.trans hu)]
    exact alike_exec i h
  | error r =>
    rw [runWord_error hu, runWord_error (hfetch.trans hu)]
    exact .fault _

theorem alike_runSlot (e : TableWord) {s u : State} (h : SameControl s u) : Alike (runSlot e s) (runSlot e u) := by
  unfold runSlot
  cases decodeTableWord e.nbits e.w with
  | some i => exact alike_exec i { h with slot := rfl }
  | none => exact .refused _

/-- An edge, by what it finds (R227): none of it depends on the sensor. -/
theorem alike_stepWith (p : Ports) {s u : State} (h : SameControl s u) : Alike (stepWith p s) (stepWith p u) := by
  cases hp : p.rst with
  | true =>
    rw [stepWith_reset hp, stepWith_reset hp]
    exact .next h.resetEdge
  | false =>
    cases hs : u.slot with
    | some e =>
      rw [stepWith_slot hp hs, stepWith_slot hp (h.slot.trans hs)]
      exact alike_runSlot e h
    | none =>
      have hs' := h.slot.trans hs
      cases hb : u.busy with
      | true =>
        rw [stepWith_busy hp hs hb, stepWith_busy hp hs' (h.busy.trans hb)]
        exact alike_runWord h
      | false =>
        have hb' := h.busy.trans hb
        cases hv : p.cmdValid with
        | true =>
          rw [stepWith_command hp hs hb hv, stepWith_command hp hs' hb' hv]
          exact alike_exec _ h
        | false =>
          rw [stepWith_nothing hp hs hb hv, stepWith_nothing hp hs' hb' hv]
          exact .next h

theorem alike_step {s u : State} (h : SameControl s u) : Alike (step s) (step u) := by
  have hports : portsNow s = portsNow u := by simp only [portsNow, h.inputs]
  unfold step
  rw [hports]
  exact alike_stepWith _ h.sampled

/-- Settles O51: the step, operation by operation, keeps the relation and stops alike. -/
theorem sensorCannotSteer : Obligations.SensorCannotSteer := by
  intro s u h
  have halike := alike_step h
  generalize step s = o at halike ⊢
  generalize step u = o' at halike ⊢
  cases halike with
  | next hnext => exact ⟨fun t ht => by cases ht; exact ⟨_, rfl, hnext⟩, nofun, nofun⟩
  | fault f => exact ⟨nofun, fun _ hf => hf, nofun⟩
  | refused r => exact ⟨nofun, nofun, fun _ hr => hr⟩

end Sys2Proof.Machine

/-! ## Proofs: the invariant on steps and clock edges, the select discipline, and the end of every command

At the event level the invariant is kept by `Edge`. A clock edge executes a word in a state with the same control
registers, or counts `TPH`. The discipline of the trace (R261) needs of the micro-program only which phase of the bus
each word finds and leaves (`tracks`, decided over the listing) and that every first byte of an assertion is one of R31. -/

namespace Sys2Proof.Machine

/-- Settles O46: a step from a state of the invariant is one of the edges, each of which keeps it. -/
theorem stepKeepsInvariantAndNeverStops : Obligations.StepKeepsInvariantAndNeverStops := by
  intro s h
  obtain ⟨t, ht, hedge⟩ := h.step_edge
  exact ⟨t, ht, inv_edge h hedge⟩

/-- Settles O45: reset is a reset edge of itself, with an empty trace. -/
theorem resetMeetsInvariant : Obligations.ResetMeetsInvariant := ⟨inv_resetEdge (s := State.reset) rfl, rfl⟩

/-! ### Clock edges -/

theorem Inv.with_tph {s : State} (h : Inv s) {k : Nat} (hk : k < 2 ^ Config.wcntW) : Inv { s with tph := k } :=
  { h with
    tphWidth := hk
    running := fun hb => { h.running hb with }
    idle := fun hb => { h.idle hb with } }

/-- Each of the three consumptions of a command keeps the invariant. -/
theorem inv_consumed {s : State} (h : Inv s) (hb : s.busy = false) (op : BitVec 2) (n : Half) :
    ∃ t, consumeCommand op n s = .next t ∧ Inv t := by
  cases ha : admitted op s.session with
  | true => exact ⟨_, consumeCommand_of_admitted hb ha n, inv_accept h hb ha n⟩
  | false => exact ⟨_, consumeCommand_of_not_admitted hb ha n, h.congr rfl⟩

/-- The edge that ends a word restarts the count. -/
theorem inv_restartTicks {o : Result} {t : State} (ht : o = .next t) (h : Inv t) :
    ∃ u, restartTicks o = .next u ∧ Inv u :=
  ⟨_, congrArg restartTicks ht, h.with_tph phase_zero_fits⟩

/-- Settles O47: what a clock edge finds (R227, R270), each with the invariant after it. -/
theorem tickKeepsInvariantAndNeverStops : Obligations.TickKeepsInvariantAndNeverStops := by
  intro p s h
  cases hp : p.rst with
  | true => exact ⟨_, tick_reset hp s, inv_resetEdge h.rom⟩
  | false =>
    cases hb : s.busy with
    | true =>
      obtain ⟨i, hfetch, hfits⟩ := h.fetches hb
      rcases Nat.lt_or_ge (s.tph + 1) (duration i) with hinner | hlast
      · refine ⟨_, tick_inner hp hb hfetch hinner, ?_⟩
        exact (h.with_tph (Nat.mod_lt _ phase_zero_fits)).congr (innerTick_control i s).symm
      · have hshifted := withShifted_control i s
        have hbusy : (withShifted i s).busy = true := (congrArg State.busy hshifted).trans hb
        have hupc : (withShifted i s).upc = s.upc := congrArg (fun c => c.upc) hshifted
        obtain ⟨t, ht, hout⟩ := exec_of_fits (h.congr hshifted.symm) hbusy (hupc ▸ hfits)
        rw [tick_last hp hb hfetch hlast]
        exact inv_restartTicks ht (hout.elim GoesOn.inv Ends.inv)
    | false =>
      cases hv : p.cmdValid with
      | false => exact ⟨s, tick_nothing hp hb hv, h⟩
      | true =>
        obtain ⟨n, hexec, -⟩ := exec_decodeCommand p.cmdOp p.cmdCpi s
        have htick : tick p s = exec (decodeCommand p.cmdOp p.cmdCpi) s := by simp [tick, hp, hb, hv]
        rw [htick, hexec]
        exact inv_consumed h hb _ n

/-! ### The select discipline (R261, R31) -/

theorem busPhase_append (tr es : List Event) :
    busPhase (tr ++ es) = es.foldl phaseAfter (busPhase tr) := List.foldl_append

/-- The word at an address finds select where its operation wants it and leaves it where the next word wants it. -/
def tracks (a : Nat) : Instr → Bool
  | .csa => phaseAt a == .off && phaseAt (a + 1) == .opened
  | .csd => phaseAt (a + 1) == .off
  | .txi _ _ => phaseAt a != .off && phaseAt (a + 1) == .moved
  | .txf | .txr | .txm _ => phaseAt a == .moved && phaseAt (a + 1) == .moved
  | .fwbr t => phaseAt t.toNat == phaseAt a && phaseAt (a + 1) == phaseAt a
  | .fwnx t => phaseAt t.toNat == phaseAt a
  | .fin0 | .fin1 => phaseAt a == .off
  | _ => phaseAt (a + 1) == phaseAt a

theorem listing_tracks : listing.zipIdx.all (fun p => tracks p.2 p.1) = true := by decide

/-- The first byte of an assertion, if the word at an address sends it. -/
def firstByte (p : Instr × Nat) : Option Byte :=
  match p.1 with
  | .txi _ imm => if phaseAt p.2 = .opened then some imm else none
  | _ => none

/-- The first bytes that the micro-program sends, in the order of the listing. -/
theorem listing_firstBytes :
    listing.zipIdx.filterMap firstByte =
      [writeCommand Config.regPowerUpReset, readCommand Config.regMotion, readCommand Config.regDeltaXL,
        readCommand Config.regDeltaXH, readCommand Config.regDeltaYL, readCommand Config.regDeltaYH,
        writeCommand Config.regConfigIV, writeCommand Config.regSromEnable, writeCommand Config.regSromEnable,
        writeCommand Config.regSromLoadBurst, readCommand Config.regLaserCtrl, writeCommand Config.regLaserCtrl,
        readCommand Config.regConfigI, writeCommand Config.regConfigI, readCommand Config.regMotionBurst] := rfl

theorem firstByte_mem {a : Nat} {d : Dst} {imm : Byte} (hi : listing[a]? = some (.txi d imm))
    (ha : phaseAt a = .opened) : imm ∈ commandBytes := by
  have hmem : imm ∈ listing.zipIdx.filterMap firstByte :=
    List.mem_filterMap.mpr ⟨_, List.mk_mem_zipIdx_iff_getElem?.mpr hi, if_pos ha⟩
  rw [listing_firstBytes] at hmem
  simp only [commandBytes, List.mem_cons, List.not_mem_nil, or_false] at hmem ⊢
  tauto

/-- `FIN`, which ends a command. -/
def isFin : Instr → Bool
  | .fin0 | .fin1 => true
  | _ => false

/-- A micro-operation keeps `BUSY`, but for `FIN`. -/
theorem exec_busy {i : Instr} {s t : State} (hw : isWord i = true) (h : exec i s = .next t) :
    t.busy = (s.busy && !isFin i) := by
  obtain ⟨-, rfl⟩ := exec_eq_next.mp h
  cases i with
  | init | getConfig | setConfig _ | getReport | wr _ _ | rd _ _ | singleWrite _ _ | singleRead _ | burstWrite
  | burstRead => exact nomatch hw
  | fwbr t => by_cases hsent : s.fwIdx = Config.fwLen <;> simp [effect, isFin, hsent]
  | _ => simp [effect, isFin]

@[simp] theorem phaseAfter_cfg (p : Phase) : phaseAfter (some p) .cfg = some p := by cases p <;> rfl
@[simp] theorem phaseAfter_oe (p : Phase) : phaseAfter (some p) .oe = some p := by cases p <;> rfl
@[simp] theorem phaseAfter_delay (p : Phase) (us : Nat) : phaseAfter (some p) (.delay us) = some p := by
  cases p <;> rfl
@[simp] theorem phaseAfter_release (p : Phase) : phaseAfter (some p) (.sel false) = some .off := by cases p <;> rfl
@[simp] theorem phaseAfter_assert : phaseAfter (some .off) (.sel true) = some .opened := rfl
@[simp] theorem phaseAfter_later (tx rx : Byte) : phaseAfter (some .moved) (.xfer tx rx) = some .moved := rfl
theorem phaseAfter_first {tx : Byte} (h : tx ∈ commandBytes) (rx : Byte) :
    phaseAfter (some .opened) (.xfer tx rx) = some .moved := if_pos h

/-- The phase that the word at an address leaves. -/
theorem phase_after_word {s : State} {i : Instr} (hi : listing[s.upc.toNat]? = some i) (hr : s.upc.toNat ≤ 0x70) :
    (eventOf i s).toList.foldl phaseAfter (some (phaseAt s.upc.toNat)) =
      some (if isFin i then .off else phaseAt (nextWord i s).toNat) := by
  have htracks : tracks s.upc.toNat i = true :=
    List.all_eq_true.mp listing_tracks (i, _) (List.mk_mem_zipIdx_iff_getElem?.mpr hi)
  have hnext := upc_add_one hr
  cases i with simp only [tracks, Bool.and_eq_true, beq_iff_eq, bne_iff_ne] at htracks
  | txi d imm =>
    obtain ⟨hsel, hmoved⟩ := htracks
    simp only [eventOf, isFin, nextWord, hnext, hmoved, transmitByte, Option.toList, List.foldl]
    cases hp : phaseAt s.upc.toNat with
    | off => exact absurd hp hsel
    | opened => exact phaseAfter_first (firstByte_mem hi hp) _
    | moved => rfl
  | fwbr t =>
    by_cases hsent : s.fwIdx = Config.fwLen <;> simp [eventOf, isFin, nextWord, hnext, htracks, hsent]
  | _ => simp [eventOf, isFin, nextWord, hnext, htracks]

/-- A running command of the invariant executes the listed word at its address. -/
theorem Inv.step_word {s : State} (h : Inv s) (hb : s.busy = true) (hp : (portsNow s).rst = false) :
    ∃ i, listing[s.upc.toNat]? = some i ∧ step s = exec i (sampled s) := by
  obtain ⟨i, hi⟩ := listed_of_le (h.running hb).range
  refine ⟨i, hi, ?_⟩
  rw [← runWord_ok (fetch_listing (s := sampled s) h.rom hi)]
  exact stepWith_busy (s := sampled s) hp h.slot hb

theorem isWord_of_listed {a : Nat} {i : Instr} (hi : listing[a]? = some i) : isWord i = true :=
  isWord_of_decodeW16 (decodeW16_romWord hi)

theorem disciplined_word {s t : State} (h : Inv s) (hd : Disciplined s) (hb : s.busy = true)
    (hp : (portsNow s).rst = false) (ht : step s = .next t) : Disciplined t := by
  obtain ⟨i, hi, hexec⟩ := h.step_word hb hp
  have hword := isWord_of_listed hi
  have ht' : exec i (sampled s) = .next t := hexec.symm.trans ht
  obtain ⟨hupc, htrace, -, -⟩ := exec_word hword ht'
  have hd' : busPhase s.trace = some (phaseAt s.upc.toNat) := by rw [hd, if_pos hb]
  have hbusy : t.busy = !isFin i := by simpa [hb] using exec_busy hword ht'
  unfold Disciplined
  rw [htrace, busPhase_append, sampled_trace, hd', hbusy, hupc]
  refine (phase_after_word (s := sampled s) hi (h.running hb).range).trans ?_
  cases isFin i <;> rfl

/-- Settles O49: edge by edge; a word by the phases it finds and leaves. -/
theorem stepKeepsSelectDiscipline : Obligations.StepKeepsSelectDiscipline := by
  intro s t h hd ht
  have hoff (hb : s.busy = false) : busPhase s.trace = some .off := by simpa [Disciplined, hb] using hd
  cases h.edge_of_step ht with
  | reset _ => rfl
  | word hp hb _ => exact disciplined_word h hd hb hp ht
  | fin hp hb _ => exact disciplined_word h hd hb hp ht
  | accept _ hb _ _ n =>
    have hentry (op : BitVec 2) : phaseAt (entryAddress op).toNat = .off := by revert op; decide
    simpa [Disciplined, hentry] using hoff hb
  | reject _ hb _ _ => simpa [Disciplined, hb] using hoff hb
  | nothing _ hb _ => simpa [Disciplined, hb] using hoff hb

/-! ### Every command completes (R12, R165) -/

theorem rst_of_quiet {n : Nat} {s : State} (h : quiet (n + 1) s) : (portsNow s).rst = false := by
  unfold quiet at h
  unfold portsNow
  cases hin : s.inputs with
  | nil => rfl
  | cons p rest => exact h p (by simp [hin])

theorem quiet_of_tail {n : Nat} {s t : State} (h : quiet (n + 1) s) (ht : t.inputs = s.inputs.tail) : quiet n t := by
  intro p hp
  refine h p ?_
  rw [ht] at hp
  cases hin : s.inputs with
  | nil => simp [hin] at hp
  | cons q rest => simp_all

/-- A bound on the steps left of a command at address `a` with firmware index `k`: to the end of a routine of READY, of
INIT behind the loop, in the loop (four words for each image byte left), and before it. -/
def stepsLeft (a k : Nat) : Nat :=
  if initEnd < a then 0x71 - a
  else if 0x45 ≤ a then 0x55 - a
  else if 0x3E ≤ a then 0x52 - a + 4 * (Config.fwLen - k)
  else 0x52 - a + 4 * Config.fwLen

theorem stepsLeft_pos {a : Nat} (h : a ≤ 0x70) (k : Nat) : 0 < stepsLeft a k := by
  unfold stepsLeft initEnd
  split_ifs <;> omega

theorem stepsLeft_le (a k : Nat) : stepsLeft a k ≤ 82 + 4 * Config.fwLen := by
  unfold stepsLeft initEnd
  split_ifs <;> omega

theorem stepsLeft_advance {a : Nat} (k : Nat) (h : a < 0x70) (hnx : a ≠ 0x44) (hend : a ≠ 0x54) :
    stepsLeft (a + 1) k < stepsLeft a k := by
  unfold stepsLeft initEnd
  split_ifs <;> omega

/-- Every word but `FIN` leaves fewer steps. -/
theorem stepsLeft_exec {s t : State} {i : Instr} (h : Inv s) (hb : s.busy = true)
    (hi : listing[s.upc.toNat]? = some i) (hfin : isFin i = false) (ht : exec i s = .next t) :
    stepsLeft t.upc.toNat t.fwIdx < stepsLeft s.upc.toNat s.fwIdx := by
  have hr := h.running hb
  have hf := fits_listing hi
  have hnext := upc_add_one hr.range
  have hadvance (ha : advances i = true) (hlt : s.upc.toNat < 0x70) (hnx : s.upc.toNat ≠ 0x44)
      (hend : s.upc.toNat ≠ 0x54) :
      stepsLeft t.upc.toNat t.fwIdx < stepsLeft s.upc.toNat s.fwIdx := by
    have hgo := exec_advanced ha ht
    rw [hgo.upc, hnext, hgo.index]
    exact stepsLeft_advance _ hlt hnx hend
  cases i with simp only [fits, Bool.and_eq_true, Bool.not_eq_true', beq_iff_eq, ordinary_iff] at hf
  | buscfg | csout | txf => exact hadvance rfl (by omega) (by omega) (by omega)
  | csa | csd | txi _ _ | txr | txm _ | waitu _ | waitm _ | aluDiv200 | aluMul200 | aluDec16 =>
    exact hadvance rfl (by omega) (by omega) (by omega)
  | fwz =>
    cases ht
    simp [hf, hnext, stepsLeft, initEnd]
  | fwbr t =>
    obtain ⟨ha, rfl⟩ := hf
    obtain ⟨-, rfl⟩ := exec_eq_next.mp ht
    have hle := hr.index (by omega) (by omega)
    by_cases hsent : s.fwIdx = Config.fwLen
    · simp [effect, hsent, ha, stepsLeft, initEnd]
    · simp [effect, hsent, ha, hnext, stepsLeft, initEnd]
  | fwnx t =>
    obtain ⟨ha, rfl⟩ := hf
    obtain ⟨-, rfl⟩ := exec_eq_next.mp ht
    have hlt := hr.inImage (by omega) (by omega)
    simp [effect, nextIndex_inside hlt, ha, stepsLeft, initEnd]
    omega
  | fin0 | fin1 => exact nomatch hfin
  | _ => exact absurd hf (by decide)

theorem completes (n : Nat) {s : State} (h : Inv s) (hb : s.busy = true)
    (hn : stepsLeft s.upc.toNat s.fwIdx ≤ n) (hq : quiet n s) :
    ∃ m t, m ≤ n ∧ runSteps m s = .next t ∧ t.busy = false ∧ t.done = true := by
  induction n generalizing s with
  | zero => exact absurd (stepsLeft_pos (h.running hb).range s.fwIdx) (by omega)
  | succ n ih =>
    obtain ⟨i, hi, hstep⟩ := h.step_word hb (rst_of_quiet hq)
    obtain ⟨t, ht, -⟩ := h.step_edge
    have hexec := hstep.symm.trans ht
    cases hfin : isFin i with
    | true =>
      refine ⟨1, t, by omega, andThen_eq_next.mpr ⟨t, ht, rfl⟩, ?_⟩
      obtain ⟨-, rfl⟩ := exec_eq_next.mp hexec
      cases i with
      | fin0 | fin1 => exact ⟨rfl, rfl⟩
      | _ => exact nomatch hfin
    | false =>
      have hbusy : t.busy = true := by simpa [hb, hfin] using exec_busy (isWord_of_listed hi) hexec
      have hless := stepsLeft_exec (inv_sampled h) hb hi hfin hexec
      obtain ⟨m, u, hm, hrun, hend⟩ := ih (inv_step h ht) hbusy (by simp only [sampled_upc, sampled_fwIdx] at hless; omega)
        (quiet_of_tail hq (exec_inputs hexec))
      exact ⟨m + 1, u, by omega, andThen_eq_next.mpr ⟨t, ht, hrun⟩, hend⟩

/-- Settles O50: by induction on the steps left, at most those of INIT. -/
theorem everyCommandCompletes : Obligations.EveryCommandCompletes :=
  fun _ h hb hq => completes _ h hb (stepsLeft_le _ _) hq

end Sys2Proof.Machine

/-! ## Proofs: single operations and the edge that runs them

Where the statement gives the next state, it is `effect` at the operation, met where `stop` answers none. -/

namespace Sys2Proof.Machine

/-! ### The edge (R200, R204, R227) -/

/-- Settles O6: the four cases of an edge without reset. -/
theorem stepRunsDecodedOperation : Obligations.StepRunsDecodedOperation := by
  refine fun s hp => ⟨fun i hs hb hi => ?word, fun hs hb hv => ?command, fun hs hb hv => ?nothing, fun e i hs hi => ?slot⟩
  case word => exact (stepWith_busy (s := sampled s) hp hs hb).trans (runWord_ok hi)
  case command => exact stepWith_command (s := sampled s) hp hs hb hv
  case nothing => exact stepWith_nothing (s := sampled s) hp hs hb hv
  case slot =>
    refine (stepWith_slot (s := sampled s) hp hs).trans ?_
    rw [runSlot, hi]
    rfl

@[simp] theorem withoutReset_tail (ps : List Ports) : (withoutReset ps).tail = ps.tail := by cases ps <;> rfl

theorem withoutReset_rst (ps : List Ports) : ((withoutReset ps).headD Ports.idle).rst = false := by cases ps <;> rfl

/-- A command placed on the ports is what the next step consumes. -/
theorem step_presentCommand (op : BitVec 2) (s : State) :
    step (presentCommand op s) = exec (decodeCommand op 0#16) (sampled (presentCommand op s)) :=
  stepWith_command (s := sampled (presentCommand op s)) rfl rfl rfl rfl

/-- A word placed at `UPC` is what the next step executes. -/
theorem step_placeWord {s : State} (hwf : s.urom.wf = true) {w : Half} {i : Instr} (hi : decodeW16 w = .ok i) :
    step (placeWord w s) = exec i (sampled (placeWord w s)) := by
  have hfetch : fetch (sampled (placeWord w s)) = .ok i := by
    rw [← hi]
    exact congrArg decodeW16 (readWord_writeWord hwf s.upc w)
  rw [← runWord_ok hfetch]
  exact stepWith_busy (s := sampled (placeWord w s)) (withoutReset_rst s.inputs) rfl rfl

/-- An entry placed in the slot is what the next step runs. -/
theorem step_placeEntry {s : State} {e : TableWord} {i : Instr} (hi : decodeTableWord e.nbits e.w = some i) :
    step (placeEntry e s) = exec i { sampled (placeEntry e s) with slot := none } := by
  refine (stepWith_slot (s := sampled (placeEntry e s)) (withoutReset_rst s.inputs) rfl).trans ?_
  rw [runSlot, hi]

/-- Settles O7: by where `withFetchWord` places an entry. -/
theorem placedWordRunsNext : Obligations.PlacedWordRunsNext := by
  intro s nbits w i hwf hi
  have hentry : ∃ u, step (placeEntry ⟨nbits, w⟩ s) = exec i u ∧ u.slot = none ∧ u.inputs = s.inputs.tail ∧
      u = { s with busy := u.busy, urom := u.urom, inputs := u.inputs, slot := none } ∧
      ∀ a, a ≠ 2 * s.upc.toNat → a ≠ 2 * s.upc.toNat + 1 → u.urom.read a = s.urom.read a :=
    ⟨_, step_placeEntry hi, rfl, withoutReset_tail s.inputs, rfl, fun _ _ _ => rfl⟩
  have hform := hi
  unfold decodeTableWord at hform
  unfold State.withFetchWord
  cases hf : tableForm nbits w with
  | command op =>
    rw [hf] at hform
    cases hform
    exact ⟨_, step_presentCommand op s, rfl, rfl, rfl, fun _ _ _ => rfl⟩
  | word v =>
    rw [hf] at hform
    cases hv : decodeW16 v with
    | error r => simp [hv, Except.toOption] at hform
    | ok j =>
      have hj : j = i := by simpa [hv, Except.toOption] using hform
      refine ⟨_, step_placeWord hwf (hj ▸ hv), rfl, withoutReset_tail s.inputs, rfl, fun a hlo hhi => ?_⟩
      exact (read_write_ne hhi _ _).trans (read_write_ne hlo _ _)
  | frameByte c => exact hentry
  | words ws => exact hentry
  | unknown => exact hentry

/-! ### Bus primitives (R120 to R128) -/

/-- Settles O9: both are one update of the model. -/
theorem busSetupRuns : Obligations.BusSetupRuns := fun _ => ⟨rfl, rfl⟩

/-- Settles O10: the two machine checks of `selectStop`, and the effect where there is none. -/
theorem selectAssertRunsOrStops : Obligations.SelectAssertRunsOrStops := by
  refine fun s => ⟨fun hoe hcfg hcs => ?_, fun h => ?_, fun hoe hcfg hcs => ?_⟩
  · exact exec_of_stop_eq_none (selectStop_eq_none.mpr ⟨hoe, hcfg, hcs⟩)
  · exact exec_eq_fault.mpr (selectStop_eq_some.mpr (.inl ⟨rfl, h⟩))
  · exact exec_eq_fault.mpr (selectStop_eq_some.mpr (.inr ⟨rfl, hoe, hcfg, hcs⟩))

/-- Settles O11: one update of the model. -/
theorem selectReleaseRuns : Obligations.SelectReleaseRuns := fun _ => rfl

/-- TXF inside the image stops only as the other transfers do (R126). -/
theorem stop_txf_inside {s : State} (h : s.fwIdx < Config.fwLen) : stop .txf s = transferStop s :=
  if_neg (Nat.not_le.mpr h)

/-- Settles O12: the transfers' effects where `transferStop` answers none. -/
theorem transfersRun : Obligations.TransfersRun := by
  intro s hcs hcfg
  have hgo := transferStop_eq_none.mpr ⟨hcs, hcfg⟩
  have htxi (dst : Dst) (imm : Byte) : exec (.txi dst imm) s = .next (effect (.txi dst imm) s) :=
    exec_of_stop_eq_none hgo
  exact ⟨htxi .none, htxi .rdval, htxi .dxl, htxi .dxh, htxi .dyl, htxi .dyh,
    fun hidx => exec_of_stop_eq_none ((stop_txf_inside hidx).trans hgo), exec_of_stop_eq_none (i := .txr) hgo,
    fun mask => exec_of_stop_eq_none (i := .txm mask) hgo⟩

/-- Settles O13: the transfers' machine checks. -/
theorem transfersStop : Obligations.TransfersStop := by
  refine fun s => ⟨fun h => ?_, fun hidx => exec_eq_fault.mpr (if_pos hidx)⟩
  have hstop : transferStop s = some .unselectedTransfer := transferStop_eq_some.mpr ⟨rfl, h⟩
  exact ⟨fun dst imm => exec_eq_fault.mpr hstop, exec_eq_fault.mpr hstop, fun m => exec_eq_fault.mpr hstop,
    fun hidx => exec_eq_fault.mpr ((stop_txf_inside hidx).trans hstop)⟩

/-! ### Register access and frames (R93 to R95, R140 to R143) -/

/-- Settles O14: one update of the model. -/
theorem waitsRun : Obligations.WaitsRun := fun _ _ => ⟨rfl, rfl⟩

/-- An access, which takes the machine checks of an assertion of select, goes on from idle select on a configured bus. -/
theorem exec_access {i : Instr} {s : State} (hi : stop i s = selectStop s) (hoe : s.csOe = true)
    (hcfg : s.busCfg = true) (hcs : s.cs = false) : exec i s = .next (effect i s) :=
  exec_of_stop_eq_none (hi.trans (selectStop_eq_none.mpr ⟨hoe, hcfg, hcs⟩))

/-- Settles O15: `written`, with the byte of each source. -/
theorem writeRegisterRuns : Obligations.WriteRegisterRuns := by
  intro a s hoe hcfg hcs
  have hwr (src : WrSrc) : exec (.wr a src) s = .next (effect (.wr a src) s) := exec_access rfl hoe hcfg hcs
  exact ⟨fun v => hwr (.imm v), hwr .raw, fun m => hwr (.masked m)⟩

/-- Settles O16: `readInto`, with each destination. -/
theorem readRegisterRuns : Obligations.ReadRegisterRuns := by
  intro a s hoe hcfg hcs
  have hrd (dst : Dst) : exec (.rd a dst) s = .next (effect (.rd a dst) s) := exec_access rfl hoe hcfg hcs
  exact ⟨hrd .none, hrd .rdval, hrd .dxl, hrd .dxh, hrd .dyl, hrd .dyh⟩

/-- Settles O33: a single access with `UPC` put back. -/
theorem singleFramesRun : Obligations.SingleFramesRun :=
  fun a _ hoe hcfg hcs => ⟨fun v => exec_access (i := .singleWrite a v) rfl hoe hcfg hcs,
    exec_access (i := .singleRead a) rfl hoe hcfg hcs⟩

/-- Settles O34: `burst` and `reported` with `UPC` put back. -/
theorem burstFramesRun : Obligations.BurstFramesRun := by
  refine fun s hoe hcfg hcs => ⟨?write, ?read⟩
  case write =>
    rw [exec_access (i := .burstWrite) rfl hoe hcfg hcs]
    simp only [effect, burst, jump, index, passed]
  case read =>
    rw [exec_access (i := .burstRead) rfl hoe hcfg hcs]
    simp only [effect, reported, jump, latch, passed]

/-- Settles O35: CSA and the accesses have one machine check, `selectStop`. -/
theorem accessesStopWhereSelectMayNotBeAsserted : Obligations.AccessesStopWhereSelectMayNotBeAsserted := by
  intro s f h
  have hstop : selectStop s = some f := exec_eq_fault.mp h
  have haccess {i : Instr} (hi : stop i s = selectStop s) : exec i s = .fault f := exec_eq_fault.mpr (hi.trans hstop)
  exact ⟨fun _ _ => haccess rfl, fun _ _ => haccess rfl, fun _ _ => haccess rfl, fun _ => haccess rfl, haccess rfl,
    haccess rfl⟩

/-! ### The firmware loop (R162 to R164) -/

/-- Settles O18: the effects of the three words; `FW_IDX` does not wrap inside the image. -/
theorem firmwareLoopOpsRun : Obligations.FirmwareLoopOpsRun := by
  refine fun t s => ⟨rfl, fun h => ?_, fun h => ?_, _, rfl, fun h => congrArg State.fwIdx (nextIndex_inside h)⟩
  · exact congrArg Host.Outcome.next (if_pos h)
  · exact congrArg Host.Outcome.next (if_neg h)

/-! ### Arithmetic (R181, R191, R193) -/

theorem assemble_toNat (hi lo : Byte) : (assemble hi lo).toNat = 256 * hi.toNat + lo.toNat := by
  have hlo := lo.isLt
  rw [assemble, BitVec.toNat_append, ← Nat.shiftLeft_add_eq_or_of_lt hlo, Nat.shiftLeft_eq]
  omega

/-- R8: the signed reading of the unsigned value. -/
theorem sint16_eq (v : Half) :
    sint16 v = if v.toNat < 32768 then (v.toNat : Int) else (v.toNat : Int) - 65536 := by
  have hmsb : v.getLsbD 15 = decide (32768 ≤ v.toNat) := BitVec.msb_eq_decide v
  rw [sint16, hmsb]
  split_ifs <;> simp_all
  omega

/-- Settles O22: the bytes assembled, and the two forms of the signed reading. -/
theorem decodesSignedDisplacements : Obligations.DecodesSignedDisplacements := by
  refine fun s => ⟨_, _, rfl, assemble_toNat s.dxh s.dxl, assemble_toNat s.dyh s.dyl, sint16_eq, fun v hv => ?_⟩
  rw [sint16_eq, if_neg (Nat.not_lt.mpr hv), BitVec.toNat_not]
  have hlt := v.isLt
  omega

theorem scale_toNat (b : Byte) : (scale b).toNat = 200 * b.toNat := by
  have hb := b.isLt
  rw [scale, BitVec.toNat_ofNat]
  omega

/-- Settles O24: the product of a byte fits sixteen bits, and the quotient keeps eight. -/
theorem sensitivityArithmetic : Obligations.SensitivityArithmetic := by
  refine fun s => ⟨⟨_, rfl, scale_toNat s.rdval, ?_⟩, _, rfl, BitVec.toNat_ofNat ..⟩
  rw [scale_toNat]
  have hb := s.rdval.isLt
  omega

/-! ### Commands and the end of one (R102, R205, R206) -/

theorem consumed_of_busy {s : State} (h : s.busy = true) (op : BitVec 2) (n : Half) : consumed op n s = s := if_pos h

/-- The edge of a running command looks at no port but `rst`. -/
theorem stepWith_congr_of_busy {p q : Ports} (hpq : p.rst = q.rst) {s : State} (hb : s.busy = true) :
    stepWith p s = stepWith q s := by
  cases hq : q.rst with
  | true => rw [stepWith_reset hq, stepWith_reset (hpq.trans hq)]
  | false =>
    have hp : p.rst = false := hpq.trans hq
    cases hs : s.slot with
    | some e => rw [stepWith_slot hp hs, stepWith_slot hq hs]
    | none => rw [stepWith_busy hp hs hb, stepWith_busy hq hs hb]

/-- Settles O30: `consumed` with BUSY = 1, and the edge of a running command. -/
theorem commandsAreHeldOffWhileBusy : Obligations.CommandsAreHeldOffWhileBusy := by
  refine ⟨fun s hb => ?_, fun s p q rest hb hpq => stepWith_congr_of_busy (s := { s with inputs := rest }) hpq hb⟩
  have hheld (op : BitVec 2) (n : Half) : consumeCommand op n s = .next s := by
    rw [consumeCommand_consumed, consumed_of_busy hb]
  exact ⟨hheld _ _, hheld _ _, hheld _, hheld _ _⟩

/-- Settles O31: the machine check of `FIN`, and the effect where there is none. -/
theorem finEndsTheCommand : Obligations.FinEndsTheCommand :=
  fun _ => ⟨fun hcs => ⟨exec_of_stop_eq_none (i := .fin0) (if_neg (by simp [hcs])),
      exec_of_stop_eq_none (i := .fin1) (if_neg (by simp [hcs]))⟩,
    fun hcs => ⟨exec_eq_fault.mpr (if_pos hcs), exec_eq_fault.mpr (if_pos hcs)⟩⟩

/-- Settles O32: the machine check of the reserved opcode has no condition. -/
theorem reservedOpcodeStops : Obligations.ReservedOpcodeStops := fun _ _ => rfl

/-- Settles O57: INITIALIZING admits no command. -/
theorem initializingRejectsWhereIdle : Obligations.InitializingRejectsWhereIdle := by
  intro s hb hs
  have hreject (op : BitVec 2) (n : Half) : consumeCommand op n s = .next { s with err := true } :=
    consumeCommand_of_not_admitted hb (congrArg (admitted op) hs) n
  exact ⟨hreject _ _, hreject _ _, hreject _, hreject _ _⟩

/-- Settles O56: each pin is its register. -/
theorem pinsShowTheRegisters : Obligations.PinsShowTheRegisters :=
  fun _ => ⟨fun hcs => if_pos hcs, fun hcs => if_neg (by simp [hcs]), rfl, rfl, rfl, rfl, rfl, rfl, rfl, rfl, rfl, rfl,
    rfl⟩

end Sys2Proof.Machine

/-! ## Proofs: runs of words (spec/30_encoding.md R106, spec/42_boot_sequencer.md to spec/44_configuration.md)

No operation looks at the ports (`exec_atPorts`), so a stretch of words that only advance does, step by step, what its
operations do one after the other (`runSteps_words`), and six words do what their pseudo-operation does. `Runs n s t`
says that `n` steps lead from `s` to `t` whatever is on the ports, no reset asked for; such runs compose, and a routine
is composed of its parts. -/

namespace Sys2Proof.Machine

/-! ### Operations one after the other -/

/-- Some operations, one after the other. -/
def execAll : List Instr → State → Result
  | [], s => .next s
  | i :: rest, s => andThen (exec i s) (execAll rest)

theorem execAll_singleton (i : Instr) (s : State) : execAll [i] s = exec i s := by
  rw [execAll]
  cases exec i s <;> rfl

theorem andThen_assoc (o : Result) (f g : State → Result) :
    andThen (andThen o f) g = andThen o fun s => andThen (f s) g := by
  cases o <;> rfl

theorem execAll_append (l l' : List Instr) (s : State) :
    execAll (l ++ l') s = andThen (execAll l s) (execAll l') := by
  induction l generalizing s with
  | nil => rfl
  | cons i l ih =>
    simp only [List.cons_append, execAll, andThen_assoc]
    exact congrArg _ (funext ih)

theorem runSteps_add (m n : Nat) (s : State) : runSteps (m + n) s = andThen (runSteps m s) (runSteps n) := by
  induction m generalizing s with
  | zero => rw [Nat.zero_add]; rfl
  | succ m ih =>
    rw [Nat.succ_add]
    simp only [runSteps, andThen_assoc]
    exact congrArg _ (funext ih)

/-! ### The ports -/

/-- `s` with other ports to come. -/
def atPorts (ps : List Ports) (s : State) : State := { s with inputs := ps }

section
variable (ps : List Ports) (s : State)

@[simp] theorem atPorts_atPorts (qs : List Ports) : atPorts ps (atPorts qs s) = atPorts ps s := rfl
@[simp] theorem atPorts_self : atPorts s.inputs s = s := rfl
@[simp] theorem atPorts_inputs : (atPorts ps s).inputs = ps := rfl
@[simp] theorem atPorts_fwIdx : (atPorts ps s).fwIdx = s.fwIdx := rfl
@[simp] theorem advance_atPorts : advance (atPorts ps s) = atPorts ps (advance s) := rfl
@[simp] theorem sampled_atPorts : sampled (atPorts ps s) = atPorts ps.tail s := rfl
@[simp] theorem passed_atPorts (es : List Event) (k n : Nat) :
    passed es k n (atPorts ps s) = atPorts ps (passed es k n s) := rfl
@[simp] theorem select_atPorts (c : Bool) : select c (atPorts ps s) = atPorts ps (select c s) := rfl
@[simp] theorem index_atPorts (j : Nat) : index j (atPorts ps s) = atPorts ps (index j s) := rfl
@[simp] theorem jump_atPorts (t : Byte) : jump t (atPorts ps s) = atPorts ps (jump t s) := rfl
@[simp] theorem answer_atPorts : (atPorts ps s).answer = s.answer := rfl
@[simp] theorem latch_atPorts (d : Dst) (b : Byte) : latch d b (atPorts ps s) = atPorts ps (latch d b s) := by
  cases d <;> rfl

theorem stop_atPorts (i : Instr) : stop i (atPorts ps s) = stop i s := by cases i <;> rfl

theorem consumed_atPorts (op : BitVec 2) (n : Half) :
    consumed op n (atPorts ps s) = atPorts ps (consumed op n s) := by
  unfold consumed
  rw [apply_ite (atPorts ps), apply_ite (atPorts ps)]
  rfl

theorem effect_atPorts (i : Instr) : effect i (atPorts ps s) = atPorts ps (effect i s) := by
  cases i with
  | init | getConfig | setConfig n | getReport => exact consumed_atPorts ps s _ _
  | fwbr t =>
    by_cases hsent : s.fwIdx = Config.fwLen <;> simp [effect, hsent]
  | txi dst imm => simp [effect, transmitByte]
  | wr a src => cases src <;> rfl
  | rd a dst => simp [effect, readInto]
  | singleRead a => rfl
  | burstWrite => simp only [effect, burst, passed_atPorts, answer_atPorts, index_atPorts]; rfl
  | burstRead => simp only [effect, reported, passed_atPorts, answer_atPorts, latch_atPorts]; rfl
  | _ => rfl

/-- No operation looks at the ports. -/
theorem exec_atPorts (i : Instr) : exec i (atPorts ps s) = andThen (exec i s) fun t => .next (atPorts ps t) := by
  rw [exec_outcome, exec_outcome, stop_atPorts, effect_atPorts]
  cases stop i s <;> rfl

theorem execAll_atPorts (l : List Instr) :
    execAll l (atPorts ps s) = andThen (execAll l s) fun t => .next (atPorts ps t) := by
  induction l generalizing s with
  | nil => rfl
  | cons i l ih =>
    simp only [execAll, exec_atPorts, andThen_assoc, andThen_next]
    exact congrArg _ (funext ih)

end

/-! ### Words in the micro-program, one after the other -/

theorem rst_of_quiet_take {n : Nat} {ps : List Ports} (h : ∀ p ∈ ps.take (n + 1), p.rst = false) (s : State) :
    (portsNow (atPorts ps s)).rst = false := rst_of_quiet (s := atPorts ps s) h

/-- Where the words of some operations stand from `UPC` on, all but the last of which only advance, as many steps
without reset do what the operations do. -/
theorem runSteps_words (block : List Instr) {s : State} (hs : s.slot = none) (hb : s.busy = true)
    (hadv : block.dropLast.all advances = true) (hq : quiet block.length s)
    (hw : ∀ k i, block[k]? = some i → decodeW16 (s.urom.readWord (s.upc + BitVec.ofNat 8 k)) = .ok i) :
    runSteps block.length s = execAll block (atPorts (s.inputs.drop block.length) s) := by
  induction block generalizing s with
  | nil => rfl
  | cons i block ih =>
    have hfetch : fetch (sampled s) = .ok i := by simpa [fetch] using hw 0 i rfl
    have hstep : step s = andThen (exec i s) fun t => .next (atPorts s.inputs.tail t) :=
      (stepWith_busy (s := sampled s) (rst_of_quiet hq) hs hb).trans
        ((runWord_ok hfetch).trans (exec_atPorts s.inputs.tail s i))
    simp only [List.length_cons, runSteps, execAll]
    rw [hstep, exec_atPorts, andThen_assoc, andThen_assoc]
    cases hexec : exec i s with
    | fault f => rfl
    | refused r => rfl
    | next t =>
      simp only [andThen_next]
      cases block with
      | nil => simp [runSteps, execAll]
      | cons j block =>
        rw [List.dropLast_cons_cons, List.all_cons, Bool.and_eq_true] at hadv
        have hgo := exec_advanced hadv.1 hexec
        have hports : t.inputs = s.inputs := exec_inputs hexec
        refine (ih (s := atPorts s.inputs.tail t) ((exec_slot hexec).trans hs) (hgo.busy.trans hb) hadv.2
          (quiet_of_tail hq rfl) fun k j hj => ?_).trans ?_
        · have hupc : s.upc + BitVec.ofNat 8 (k + 1) = t.upc + BitVec.ofNat 8 k := by
            rw [hgo.upc, BitVec.add_assoc, Nat.add_comm k 1, BitVec.ofNat_add]
          have hnext := hw (k + 1) j hj
          rwa [hupc, ← exec_urom hexec] at hnext
        · simp

/-! ### Pseudo-operations (R106) -/

/-- The data transfer of `WR a, src`. -/
def dataWord : WrSrc → Instr
  | .imm v => .txi .none v
  | .raw => .txr
  | .masked m => .txm m

/-- The operations of a pseudo-operation's words; another operation stands for itself. -/
def expand : Instr → List Instr
  | .wr a src => [.csa, .txi .none (writeCommand a), dataWord src, .waitu 20#12, .csd, .waitu 100#12]
  | .rd a dst => [.csa, .txi .none (readCommand a), .txi dst 0#8, .waitu 1#12, .csd, .waitu 19#12]
  | i => [i]

theorem execAll_expand (i : Instr) (s : State) : execAll (expand i) s = exec i s := by
  cases i with
  | wr a src => cases src <;> rfl
  | rd a dst => rfl
  | _ => exact execAll_singleton _ s

theorem execAll_flatMap_expand (l : List Instr) (s : State) : execAll (l.flatMap expand) s = execAll l s := by
  induction l generalizing s with
  | nil => rfl
  | cons i l ih =>
    rw [List.flatMap_cons, execAll_append, execAll_expand, execAll]
    exact congrArg _ (funext ih)

/-- A group of words is the encodings of its operations. -/
theorem pseudo_words {i : Instr} {ws : List Half} (h : encode i = .pseudo ws) :
    ws.map Encoded.w16 = (expand i).map encode := by
  cases i with
  | wr a src =>
    cases h
    cases src <;> rfl
  | rd a dst =>
    cases h
    rfl
  | _ => exact nomatch h

theorem expand_wellFormed {i : Instr} {ws : List Half} (h : encode i = .pseudo ws) :
    (expand i).all WellFormed = true ∧ (expand i).all advances = true ∧ (expand i).length = 6 := by
  cases i with
  | wr a src => cases src <;> exact ⟨rfl, rfl, rfl⟩
  | rd a dst => exact ⟨rfl, rfl, rfl⟩
  | _ => exact nomatch h

/-- Settles O17: the six words are those of `expand i`, and what these do one after the other is `exec i`. -/
theorem pseudoOperationIsItsSixWords : Obligations.PseudoOperationIsItsSixWords := by
  intro i ws s hi hs hb hq hw
  obtain ⟨hwf, hadv, hlen⟩ := expand_wellFormed hi
  have hrun := runSteps_words (expand i) (s := s) hs hb
    (List.all_eq_true.mpr fun j hj => List.all_eq_true.mp hadv j (List.mem_of_mem_dropLast hj)) (by rwa [hlen]) ?_
  · rwa [hlen, execAll_expand] at hrun
  · intro k j hj
    have hword : (ws.map Encoded.w16)[k]? = some (encode j) := by rw [pseudo_words hi, List.getElem?_map, hj]; rfl
    obtain ⟨w, hk, hencode⟩ := Option.map_eq_some_iff.mp (List.getElem?_map .. ▸ hword)
    rw [hw k w hk]
    have hdecode := decode_encode j (List.all_eq_true.mp hwf j (List.mem_of_getElem? hj))
    rwa [← hencode] at hdecode

/-! ### Runs on the fixed micro-program -/

/-- A running command on the fixed micro-program, with nothing in the slot. -/
structure OnRom (s : State) : Prop where
  rom : s.urom = []
  slot : s.slot = none
  busy : s.busy = true

/-- Select is idle and the bus and the pin are set up. -/
structure BusFree (s : State) : Prop where
  driven : s.csOe = true
  configured : s.busCfg = true
  deselected : s.cs = false

/-- `n` steps lead from `s` to `t`, whatever the ports carry but a reset. -/
def Runs (n : Nat) (s t : State) : Prop :=
  ∀ ps : List Ports, (∀ p ∈ ps.take n, p.rst = false) → runSteps n (atPorts ps s) = .next (atPorts (ps.drop n) t)

theorem Runs.trans {m n : Nat} {s t u : State} (h : Runs m s t) (h' : Runs n t u) : Runs (m + n) s u := by
  intro ps hps
  have hm : ∀ p ∈ ps.take m, p.rst = false := fun p hp =>
    hps p (List.take_subset_take_left ps (Nat.le_add_right m n) hp)
  have hn : ∀ p ∈ (ps.drop m).take n, p.rst = false := fun p hp =>
    hps p (List.mem_of_mem_drop (List.take_drop ▸ hp))
  rw [runSteps_add, h ps hm, andThen_next, h' _ hn, List.drop_drop]

/-- A run from the ports a state has. -/
theorem Runs.of_quiet {n : Nat} {s t : State} (h : Runs n s t) (hq : quiet n s) :
    runSteps n s = .next (atPorts (s.inputs.drop n) t) := h s.inputs hq

/-- The listed words from an address on, all but the last of which only advance. -/
theorem runs_listed {block : List Instr} {s t : State} (h : OnRom s) (hblock : block <+: listing.drop s.upc.toNat)
    (hadv : block.dropLast.all advances = true) (hexec : execAll block s = .next t) : Runs block.length s t := by
  intro ps hps
  have hrun := runSteps_words block (s := atPorts ps s) h.slot h.busy hadv hps ?_
  · rw [hrun, atPorts_atPorts, execAll_atPorts, hexec]
    rfl
  · intro k i hi
    obtain ⟨rest, hrest⟩ := hblock
    have hlisted : listing[s.upc.toNat + k]? = some i := by
      have hk : k < block.length := (List.getElem?_eq_some_iff.mp hi).1
      rw [← List.getElem?_drop, ← hrest, List.getElem?_append_left hk, hi]
    have hlt : s.upc.toNat + k < 113 := listing_length ▸ (List.getElem?_eq_some_iff.mp hlisted).1
    have hupc : (s.upc + BitVec.ofNat 8 k).toNat = s.upc.toNat + k := by
      rw [BitVec.toNat_add, BitVec.toNat_ofNat]
      omega
    show decodeW16 (Memory.readWord s.urom (s.upc + BitVec.ofNat 8 k)) = .ok i
    rw [h.rom, readWord_nil, hupc]
    exact decodeW16_romWord hlisted

/-- The listed words of some operations, pseudo-operations among them, from an address on. -/
theorem runs_expanded {l : List Instr} {s t : State} (h : OnRom s)
    (hblock : l.flatMap expand <+: listing.drop s.upc.toNat) (hadv : (l.flatMap expand).dropLast.all advances = true)
    (hexec : execAll l s = .next t) : Runs (l.flatMap expand).length s t :=
  runs_listed h hblock hadv ((execAll_flatMap_expand l s).trans hexec)

end Sys2Proof.Machine

/-! ## Proofs: the firmware burst on the micro-program (spec/42_boot_sequencer.md section 2)

The words up to the loop, the loop by induction on the image bytes left, and the closing CSD, put together by
`Runs.trans`. -/

namespace Sys2Proof.Machine

/-! ### The conditions along a run -/

section
variable {s : State}

theorem OnRom.passed (h : OnRom s) (es : List Event) (k n : Nat) : OnRom (passed es k n s) := ⟨h.rom, h.slot, h.busy⟩
theorem OnRom.index (h : OnRom s) (j : Nat) : OnRom (index j s) := ⟨h.rom, h.slot, h.busy⟩
theorem OnRom.jump (h : OnRom s) (t : Byte) : OnRom (jump t s) := ⟨h.rom, h.slot, h.busy⟩
theorem OnRom.select (h : OnRom s) (c : Bool) : OnRom (select c s) := ⟨h.rom, h.slot, h.busy⟩

theorem OnRom.sentImage (h : OnRom s) (r n : Nat) : OnRom (sentImage r n s) := (h.passed _ _ _).index _

theorem BusFree.passed (h : BusFree s) (es : List Event) (k n : Nat) : BusFree (passed es k n s) :=
  ⟨h.driven, h.configured, h.deselected⟩
theorem BusFree.latch (h : BusFree s) (d : Dst) (b : Byte) : BusFree (latch d b s) :=
  ⟨by simp [h.driven], by simp [h.configured], by simp [h.deselected]⟩

/-! ### Operations along a run -/

theorem exec_wr (h : BusFree s) (a : Addr7) (src : WrSrc) : exec (.wr a src) s = .next (written a (sourceByte src s) s) :=
  exec_access rfl h.driven h.configured h.deselected

theorem exec_rd (h : BusFree s) (a : Addr7) (dst : Dst) : exec (.rd a dst) s = .next (readInto a dst s) :=
  exec_access rfl h.driven h.configured h.deselected

theorem exec_fin0 (h : s.cs = false) : exec .fin0 s = .next { s with busy := false, done := true } :=
  exec_of_stop_eq_none (i := .fin0) (if_neg (by simp [h]))

theorem exec_fin1 (h : s.cs = false) :
    exec .fin1 s = .next { s with session := .ready, busy := false, done := true } :=
  exec_of_stop_eq_none (i := .fin1) (if_neg (by simp [h]))

theorem execAll_cons {i : Instr} {t : State} (h : exec i s = .next t) (l : List Instr) :
    execAll (i :: l) s = execAll l t := by
  rw [execAll, h, andThen_next]

end

/-! ### The firmware burst (R165) -/

theorem runs_word {i : Instr} {s t : State} (h : OnRom s) (hi : listing[s.upc.toNat]? = some i)
    (hexec : exec i s = .next t) : Runs 1 s t := by
  refine runs_listed (block := [i]) h ?_ rfl ((execAll_singleton i s).trans hexec)
  obtain ⟨hlt, rfl⟩ := List.getElem?_eq_some_iff.mp hi
  exact ⟨listing.drop (s.upc.toNat + 1), (List.drop_eq_getElem_cons hlt).symm⟩

/-- Where `UPC` is overwritten, how many words a stretch passed does not matter. -/
theorem jump_sentImage (t u : Byte) (r n n' : Nat) (s : State) :
    jump t (sentImage r n (jump u s)) = jump t (sentImage r n' s) := rfl

theorem jump_sentImage_succ (t u : Byte) (r n : Nat) (s : State) :
    jump t (sentImage r n (jump u (sentImage 1 2 s))) = jump t (sentImage (r + 1) n s) := by
  rw [jump_sentImage t u r n n, ← sentImage_succ]
  rfl

/-- One pass of the loop sends one byte. -/
theorem runs_pass {s : State} (h : OnRom s) (hupc : s.upc = 0x41#8) (hcs : s.cs = true) (hcfg : s.busCfg = true)
    (hidx : s.fwIdx < Config.fwLen) : Runs 4 s (jump 0x41#8 (sentImage 1 2 s)) := by
  have htest : Runs 1 s (advance s) := by
    refine runs_word h (i := .fwbr 0x45#8) (by rw [hupc]; rfl) ?_
    exact congrArg Host.Outcome.next (if_neg hidx.ne)
  have hbody : Runs 3 (advance s) (jump 0x41#8 (sentImage 1 2 s)) := by
    refine runs_listed (block := [.txf, .waitu 15#12, .fwnx 0x41#8]) ⟨h.rom, h.slot, h.busy⟩ ?_ rfl ?_
    · rw [advance_upc, hupc]
      exact ⟨listing.drop 0x45, rfl⟩
    · have hsent := transferFirmware_passed (s := advance s) hcs hcfg hidx
      rw [execAll_cons (i := .txf) hsent, execAll_cons (i := .waitu 15#12) (wait_passed _ _), execAll_singleton,
        passed_passed]
      refine congrArg Host.Outcome.next (?_ : jump 0x41#8 (nextIndex _) = _)
      rw [nextIndex_inside (by simpa using hidx)]
      rfl
  exact htest.trans hbody

/-- The loop sends the image bytes left and leaves by its test (R163, R165). -/
theorem runs_loop (r : Nat) {s : State} (h : OnRom s) (hupc : s.upc = 0x41#8) (hcs : s.cs = true)
    (hcfg : s.busCfg = true) (hr : s.fwIdx + r = Config.fwLen) :
    Runs (4 * r + 1) s (jump 0x45#8 (sentImage r 0 s)) := by
  induction r generalizing s with
  | zero =>
    rw [sentImage_zero]
    refine runs_word h (i := .fwbr 0x45#8) (by rw [hupc]; rfl) ?_
    exact congrArg Host.Outcome.next (if_pos hr)
  | succ r ih =>
    have hpass := runs_pass h hupc hcs hcfg (by omega)
    have hrest := ih (s := jump 0x41#8 (sentImage 1 2 s)) ((h.sentImage _ _).jump _) rfl hcs hcfg
      (by simp only [jump_fwIdx, sentImage, index_fwIdx]; omega)
    rw [jump_sentImage_succ] at hrest
    have hsteps : 4 + (4 * r + 1) = 4 * (r + 1) + 1 := by omega
    exact hsteps ▸ hpass.trans hrest

/-- The burst up to its loop: the index cleared, select asserted, the command byte and 15 µs. -/
def opened (s : State) : State :=
  index 0 (select true (passed [.sel true, .xfer 0xE2#8 (s.answer 0), .delay 15] 1 4 s))

theorem OnRom.opened {s : State} (h : OnRom s) : OnRom (opened s) := ((h.passed _ _ _).select true).index 0

theorem advance_eq_passed (s : State) : advance s = passed [] 0 1 s := by simp [advance, passed]

theorem runs_opened {s : State} (h : OnRom s) (hfree : BusFree s) (hupc : s.upc = 0x3D#8) : Runs 4 s (opened s) := by
  have hzero : Runs 1 s (index 0 (passed [] 0 1 s)) := by
    refine runs_word h (i := .fwz) (by rw [hupc]; rfl) ?_
    rw [← passed_index, ← advance_eq_passed]
    rfl
  have hstart : Runs 3 (index 0 (passed [] 0 1 s)) (opened s) := by
    refine runs_listed (block := burstStart) ((h.passed _ _ _).index 0) ?_ rfl ?_
    · rw [index_upc, passed_upc, hupc]
      exact ⟨listing.drop 0x41, rfl⟩
    · have hassert := selectAssert_passed (s := index 0 (passed [] 0 1 s)) hfree.driven hfree.configured
        hfree.deselected
      have hcommand := transfer_passed (s := select true (passed [.sel true] 0 1 (index 0 (passed [] 0 1 s)))) rfl
        hfree.configured .none 0xE2#8
      rw [burstStart, execAll_cons (i := .csa) hassert,
        execAll_cons (i := .txi .none 0xE2#8) hcommand, execAll_singleton]
      refine (wait_passed _ _).trans ?_
      simp [opened]
  exact hzero.trans hstart

@[simp] theorem passed_jump (es : List Event) (k n : Nat) (t : Byte) (s : State) :
    passed es k n (jump t s) = jump (t + BitVec.ofNat 8 n) (passed es k n s) := rfl
@[simp] theorem select_jump (c : Bool) (t : Byte) (s : State) : select c (jump t s) = jump t (select c s) := rfl

/-- The closing CSD completes the burst. -/
theorem burst_eq {s : State} (hcs : s.cs = false) :
    select false (passed [.sel false] 0 1 (jump 0x45#8 (sentImage Config.fwLen 0 (opened s)))) =
      jump 0x46#8 (burst s) := by
  have hwords (es : List Event) (k n : Nat) (u : State) :
      jump 0x46#8 (index Config.fwLen (passed es k n u)) = jump 0x46#8 (index Config.fwLen (passed es k 5 u)) := rfl
  rw [burst, hwords]
  simp [opened, sentImage, burstTrace, imageFrom_zero, select_of_eq, hcs, Nat.add_comm 1]

/-- The whole burst, from the word at 0x3D (R165). -/
theorem runs_burst {s : State} (h : OnRom s) (hfree : BusFree s) (hupc : s.upc = 0x3D#8) :
    Runs (6 + 4 * Config.fwLen) s (jump 0x46#8 (burst s)) := by
  have hloop : Runs (4 * Config.fwLen + 1) (opened s) (jump 0x45#8 (sentImage Config.fwLen 0 (opened s))) :=
    runs_loop Config.fwLen h.opened (by simp [opened, hupc]) rfl hfree.configured (Nat.zero_add _)
  have hclose : Runs 1 (jump 0x45#8 (sentImage Config.fwLen 0 (opened s))) (jump 0x46#8 (burst s)) := by
    refine runs_word (i := .csd) ((h.opened.sentImage _ _).jump _) rfl ?_
    rw [← burst_eq hfree.deselected]
    exact selectRelease_passed _
  have hsteps : 4 + (4 * Config.fwLen + 1 + 1) = 6 + 4 * Config.fwLen := by omega
  exact hsteps ▸ (runs_opened h hfree hupc).trans (hloop.trans hclose)

/-- Settles O19: `burst`, with `UPC` behind it. -/
theorem firmwareBurstSendsTheImage : Obligations.FirmwareBurstSendsTheImage := by
  intro s hrom hslot hbusy hupc hcs hoe hcfg hq
  rw [(runs_burst ⟨hrom, hslot, hbusy⟩ ⟨hoe, hcfg, hcs⟩ hupc).of_quiet hq]
  simp only [atPorts, jump, burst, index, passed]

end Sys2Proof.Machine

/-! ## Proofs: the routines of READY (spec/43_motion_report.md, spec/44_configuration.md)

A command's run is its acceptance and then the run of its words (`runSteps_command`); what the words of GET_REPORT,
GET_CONFIG and SET_CONFIG do one after the other is said by an `execAll_` lemma each. -/

namespace Sys2Proof.Machine

/-! ### The accepting step and what runs from it -/

@[simp] theorem accept_answer (op : BitVec 2) (n : Half) (s : State) : (accept op n s).answer = s.answer := rfl

theorem exec_accept {s : State} (hb : s.busy = false) {op : BitVec 2} (ha : admitted op s.session = true) (n : Half) :
    exec (decodeCommand op n) s = .next (accept op n s) := by
  rw [← tick_accept hb ha n]
  simp [tick, hb]

/-- The step of an idle block that is presented an admitted command (R201). -/
theorem step_accept {s : State} (hs : s.slot = none) (hb : s.busy = false) {op : BitVec 2}
    (ha : admitted op s.session = true) {n : Half} (hp : presents op n s) :
    step s = .next (atPorts s.inputs.tail (accept op n s)) := by
  unfold step
  rw [show portsNow s = _ from hp]
  exact (stepWith_command (s := sampled s) rfl hs hb rfl).trans (exec_accept (s := sampled s) hb ha n)

/-- A command's run: its acceptance, then the run of its words. -/
theorem runSteps_command {s t : State} (h : Inv s) (hb : s.busy = false) {op : BitVec 2}
    (ha : admitted op s.session = true) {n : Half} (hp : presents op n s) {k : Nat} (hq : quiet (k + 1) s)
    (hrun : Runs k (accept op n s) t) : runSteps (k + 1) s = .next (atPorts (s.inputs.drop (k + 1)) t) := by
  have hrest := hrun s.inputs.tail (quiet_of_tail (t := atPorts s.inputs.tail s) hq rfl)
  rw [runSteps, step_accept h.slot hb ha hp, andThen_next, hrest, List.drop_tail]

section
variable {s : State} (h : Inv s) (hb : s.busy = false) (hs : s.session = .ready) {op : BitVec 2} (n : Half)
include h

theorem onRom_accept : OnRom (accept op n s) := ⟨h.rom, h.slot, rfl⟩

include hb hs

theorem busFree_accept : BusFree (accept op n s) :=
  ⟨((h.idle hb).ready hs).2, ((h.idle hb).ready hs).1, (h.idle hb).deselected⟩

end

theorem admitted_of_ready {s : State} (hs : s.session = .ready) {op : BitVec 2} (hop : op ≠ 0b00#2) :
    admitted op s.session = true := admitted_iff.mpr (.inr ⟨hs, hop⟩)

/-! ### GET_REPORT (R180) -/

theorem execAll_getReport {u : State} (h : BusFree u) :
    execAll getReportAsm u =
      .next { effect .aluDec16 (reported u) with busy := false, done := true } := by
  have hframe : execAll (getReportAsm.take 9) u = .next (reported u) :=
    burstReadOps_reported h.driven h.configured h.deselected
  rw [show getReportAsm = getReportAsm.take 9 ++ [.aluDec16, .fin0] from rfl, execAll_append, hframe, andThen_next,
    execAll_cons (i := .aluDec16) rfl, execAll_singleton]
  exact exec_fin0 (by simp [reported, h.deselected])

/-- Settles O23: acceptance and the eleven listed words. -/
theorem getReportRuns : Obligations.GetReportRuns := by
  intro s n h hb hs hp hq
  have hrun := runs_listed (block := getReportAsm) (onRom_accept h n) ⟨[], rfl⟩ rfl
    (execAll_getReport (busFree_accept h hb hs (op := 0b11#2) n))
  rw [runSteps_command h hb (admitted_of_ready hs (by decide)) hp hq hrun]
  refine congrArg Host.Outcome.next ?_
  ext : 1
  all_goals simp [atPorts, effect, reported, assemble, hb, entryAddress]

/-! ### GET_CONFIG (R190) -/

theorem execAll_getConfig {u : State} (h : BusFree u) :
    execAll [.rd Config.regConfigI .rdval, .aluMul200, .fin0] u =
      .next { effect .aluMul200 (readInto Config.regConfigI .rdval u) with busy := false, done := true } := by
  rw [execAll_cons (exec_rd h _ _), execAll_cons (i := .aluMul200) rfl, execAll_singleton]
  exact exec_fin0 (by simp [readInto, h.deselected])

/-- Settles O25: acceptance, the read, the product and `FIN 0`. -/
theorem getConfigRuns : Obligations.GetConfigRuns := by
  intro s n h hb hs hp hq
  have hrun := runs_expanded (onRom_accept h (op := 0b01#2) n) ⟨listing.drop 0x5D, rfl⟩ rfl
    (execAll_getConfig (busFree_accept h hb hs n))
  rw [runSteps_command h hb (admitted_of_ready hs (by decide)) hp hq hrun]
  refine congrArg Host.Outcome.next ?_
  ext : 1
  all_goals simp [atPorts, effect, readInto, scale, hb, Nat.mul_comm, entryAddress]

/-! ### SET_CONFIG (R192) -/

/-- The byte written is the quotient (R192). -/
theorem execAll_setConfig {u : State} (h : BusFree u) :
    execAll [.aluDiv200, .wr Config.regConfigI .raw, .waitm 100#12, .fin0] u =
      .next { passed (writeTrace Config.regConfigI (quantise u.arg) (u.answer 0) (u.answer 1) ++ [.delay 100000]) 2 8 u with
        raw := quantise u.arg, busy := false, done := true } := by
  have h' : BusFree (effect .aluDiv200 u) := ⟨h.driven, h.configured, h.deselected⟩
  rw [execAll_cons (i := .aluDiv200) (t := effect .aluDiv200 u) rfl, execAll_cons (exec_wr h' _ _),
    execAll_cons (i := .waitm 100#12) (wait_passed _ _), execAll_singleton,
    exec_fin0 (by simp [written, effect, h.deselected])]
  refine congrArg Host.Outcome.next ?_
  simp only [effect, advance_eq_passed, written, passed_passed, sourceByte]
  rfl

theorem quantise_eq (n : Half) : quantise n = BitVec.ofNat 8 (n.toNat / 200 % 256) := by
  refine BitVec.eq_of_toNat_eq ?_
  simp [quantise]

/-- Settles O26: acceptance, the quotient, the write, 100 ms and `FIN 0`. -/
theorem setConfigRuns : Obligations.SetConfigRuns := by
  intro s n h hb hs hp hq
  have hrun := runs_expanded (onRom_accept h (op := 0b10#2) n) ⟨listing.drop 0x66, rfl⟩ rfl
    (execAll_setConfig (busFree_accept h hb hs n))
  rw [runSteps_command h hb (admitted_of_ready hs (by decide)) hp hq hrun]
  refine congrArg Host.Outcome.next ?_
  ext : 1
  all_goals simp [atPorts, quantise_eq, hb, entryAddress]

end Sys2Proof.Machine

/-! ## Proofs: setting and reading back, and INIT (spec/44_configuration.md R194, spec/42_boot_sequencer.md R160)

INIT is composed of three runs: the words before the burst (`execAll_beforeBurst`), the burst (`runs_burst`), and the
words behind it (`execAll_laserAccesses`). -/

namespace Sys2Proof.Machine

/-! ### SET_CONFIG, then GET_CONFIG (R194) -/

theorem inv_runSteps {n : Nat} {s t : State} (h : Inv s) (ht : runSteps n s = .next t) : Inv t := by
  induction n generalizing s with
  | zero =>
    cases ht
    exact h
  | succ n ih =>
    obtain ⟨u, hu, hinv⟩ := stepKeepsInvariantAndNeverStops s h
    rw [runSteps, hu, andThen_next] at ht
    exact ih hinv ht

theorem quiet_take {m n : Nat} (hmn : m ≤ n) {s : State} (h : quiet n s) : quiet m s :=
  fun p hp => h p (List.take_subset_take_left _ hmn hp)

theorem quiet_drop {m n : Nat} {s t : State} (h : quiet (m + n) s) (ht : t.inputs = s.inputs.drop m) : quiet n t := by
  intro p hp
  rw [ht] at hp
  exact h p (List.mem_of_mem_drop (List.take_drop ▸ hp))

theorem presents_of_inputs {s t : State} {k : Nat} {op : BitVec 2} {n : Half}
    (h : s.inputs[k]? = some { rst := false, cmdValid := true, cmdOp := op, cmdCpi := n })
    (ht : t.inputs = s.inputs.drop k) : presents op n t := by
  simp [presents, portsNow, ht, List.head?_drop, h]

/-- The two runs one after the other: what GET_CONFIG latches is the fourth answer. -/
theorem runSteps_setConfig_getConfig {s : State} {n k : Half} (h : Inv s) (hb : s.busy = false)
    (hs : s.session = .ready) (hp : presents 0b10#2 n s)
    (hnext : s.inputs[10]? = some { rst := false, cmdValid := true, cmdOp := 0b01#2, cmdCpi := k })
    (hq : quiet 19 s) :
    ∃ t, runSteps 19 s = .next t ∧ t.busy = false ∧ t.done = true ∧ t.cpi = scale (s.answer 3) := by
  have hset : ∃ u, runSteps 10 s = .next u ∧ u.busy = false ∧ u.session = .ready ∧ u.inputs = s.inputs.drop 10 ∧
      u.answer 1 = s.answer 3 :=
    ⟨_, setConfigRuns s n h hb hs hp (quiet_take (by omega) hq), hb, hs, rfl, answer_consume s 2 1⟩
  obtain ⟨u, hu, hub, hus, hinputs, hanswer⟩ := hset
  have hget := getConfigRuns u k (inv_runSteps h hu) hub hus (presents_of_inputs hnext hinputs)
    (quiet_drop (m := 10) (n := 9) hq hinputs)
  have hsteps : runSteps 19 s = runSteps 9 u := by rw [runSteps_add 10 9, hu, andThen_next]
  refine ⟨_, hsteps.trans hget, hub, rfl, ?_⟩
  rw [hanswer, scale, Nat.mul_comm]

/-- Settles O27: with the byte written read back, the product undoes the quotient up to the remainder. -/
theorem cpiRoundTrip : Obligations.CpiRoundTrip := by
  intro s n k h hb hs hp hnext hq
  obtain ⟨t, ht, htb, htd, hcpi⟩ := runSteps_setConfig_getConfig h hb hs hp hnext hq
  have hvalue : t.cpi.toNat = 200 * (s.answer 3).toNat := by rw [hcpi, scale_toNat]
  refine ⟨t, ht, htb, htd, hvalue, fun hbyte hn => ?_, fun hbyte hmul hn => BitVec.eq_of_toNat_eq ?_⟩
  · omega
  · omega

/-! ### INIT (R160) -/

section
variable {s : State} (h : BusFree s)
include h

theorem execAll_wr_imm (a : Addr7) (v : Byte) (l : List Instr) :
    execAll (.wr a (.imm v) :: l) s = execAll l (passed (writeTrace a v (s.answer 0) (s.answer 1)) 2 6 s) :=
  execAll_cons (exec_wr h a (.imm v)) l

theorem execAll_rd_none (a : Addr7) (l : List Instr) :
    execAll (.rd a .none :: l) s = execAll l (passed (readTrace a (s.answer 0) (s.answer 1)) 2 6 s) :=
  execAll_cons (exec_rd h a .none) l

end

theorem execAll_waitm (n : BitVec 12) (l : List Instr) (s : State) :
    execAll (.waitm n :: l) s = execAll l (passed [.delay (1000 * n.toNat)] 0 1 s) :=
  execAll_cons (i := .waitm n) (wait_passed _ _) l

/-- The bus and the pin set up, select idle. -/
def setUp (s : State) : State := { s with busCfg := true, csOe := true, cs := false }

theorem OnRom.setUp {s : State} (h : OnRom s) : OnRom (setUp s) := ⟨h.rom, h.slot, h.busy⟩

theorem setUp_busFree (s : State) : BusFree (setUp s) := ⟨rfl, rfl, rfl⟩

@[simp] theorem setUp_answer (s : State) : (setUp s).answer = s.answer := rfl

theorem execAll_resetPulse (s : State) :
    execAll resetPulseAsm s = .next (passed [.cfg, .oe, .sel false, .sel true, .sel false] 0 5 (setUp s)) := by
  have hsetup : execAll [.buscfg, .csout, .csd] s = .next (passed [.cfg, .oe, .sel false] 0 3 (setUp s)) := by
    simp [execAll, exec_outcome, outcome, stop, effect, passed, select, setUp, BitVec.add_assoc]
  rw [show resetPulseAsm = [.buscfg, .csout, .csd] ++ [.csa, .csd] from rfl, execAll_append, hsetup, andThen_next,
    execAll_cons (i := .csa) (selectAssert_passed rfl rfl rfl), execAll_singleton]
  refine (selectRelease_passed _).trans ?_
  simp [select_of_eq, (setUp_busFree s).deselected]

/-- Steps 2 to 8: the accesses and waits up to the burst. -/
def bootAccesses : List Instr :=
  [.wr 0x3A#7 (.imm 0x5A#8), .waitm 50#12, .rd Config.regMotion .none, .rd Config.regDeltaXL .none,
    .rd Config.regDeltaXH .none, .rd Config.regDeltaYL .none, .rd Config.regDeltaYH .none,
    .wr 0x39#7 (.imm 0x02#8), .wr 0x13#7 (.imm 0x1D#8), .waitm 10#12, .wr 0x13#7 (.imm 0x18#8)]

theorem beforeBurst_eq : beforeBurst = resetPulseAsm ++ bootAccesses.flatMap expand := rfl

theorem execAll_bootAccesses {s : State} (h : BusFree s) :
    execAll bootAccesses s =
      .next (passed
        (writeTrace 0x3A#7 0x5A#8 (s.answer 0) (s.answer 1) ++ [.delay 50000] ++
          readTrace Config.regMotion (s.answer 2) (s.answer 3) ++
          readTrace Config.regDeltaXL (s.answer 4) (s.answer 5) ++
          readTrace Config.regDeltaXH (s.answer 6) (s.answer 7) ++
          readTrace Config.regDeltaYL (s.answer 8) (s.answer 9) ++
          readTrace Config.regDeltaYH (s.answer 10) (s.answer 11) ++ bootTraceDownload s.answer) 18 56 s) := by
  simp [bootAccesses, execAll_wr_imm, execAll_rd_none, execAll_waitm, h, BusFree.passed, bootTraceDownload]
  rfl

/-- The words before the burst: steps 1 to 8. -/
theorem execAll_beforeBurst (s : State) :
    execAll beforeBurst s =
      .next (passed (bootTraceWake s.answer ++ bootTraceDownload s.answer) 18 61 (setUp s)) := by
  rw [beforeBurst_eq, execAll_append, execAll_resetPulse, andThen_next, execAll_flatMap_expand,
    execAll_bootAccesses ((setUp_busFree s).passed _ _ _)]
  simp [bootTraceWake]

/-- Steps 10 to 12. -/
def laserAccesses : List Instr :=
  [.waitm 10#12, .rd 0x20#7 .rdval, .wr 0x20#7 (.masked 0xF0#8), .waitm 1#12, .fin1]

/-- The words after the burst: the byte read is written back with its low nibble cleared (R166). -/
theorem execAll_laserAccesses {s : State} (h : BusFree s) :
    execAll laserAccesses s =
      .next { latch .rdval (s.answer 1) (passed (bootTraceLaser s.answer) 4 14 s) with
        session := .ready, busy := false, done := true } := by
  rw [laserAccesses, execAll_waitm, execAll_cons (exec_rd (h.passed _ _ _) _ _), readInto,
    execAll_cons (exec_wr (((h.passed _ _ _).passed _ _ _).latch _ _) _ _), written, execAll_waitm, execAll_singleton,
    exec_fin1 (by simp [h.deselected])]
  simp [bootTraceLaser, sourceByte]

/-- INIT behind its burst. -/
def afterBurst (s : State) : State :=
  jump 0x46#8 (index Config.fwLen (passed
    (bootTraceWake s.answer ++ bootTraceDownload s.answer ++ burstTrace fun k => s.answer (18 + k))
    (19 + Config.fwLen) 0 (setUp s)))

theorem afterBurst_eq (s : State) :
    jump 0x46#8 (burst (passed (bootTraceWake s.answer ++ bootTraceDownload s.answer) 18 61 (setUp s))) =
      afterBurst s := by
  simp only [burst, passed_passed, passed_answer, setUp_answer, afterBurst]
  rw [← Nat.add_assoc 18 1]
  rfl

theorem runs_toBurst {s : State} (h : OnRom s) (hupc : s.upc = 0x00#8) :
    Runs (67 + 4 * Config.fwLen) s (afterBurst s) := by
  have hwake := runs_listed (block := beforeBurst) h (hupc ▸ ⟨listing.drop 0x3D, rfl⟩) rfl (execAll_beforeBurst s)
  have hburst := runs_burst (h.setUp.passed (bootTraceWake s.answer ++ bootTraceDownload s.answer) 18 61)
    ((setUp_busFree s).passed _ _ _) (by rw [passed_upc, show (setUp s).upc = 0x00#8 from hupc]; rfl)
  have hsteps : 61 + (6 + 4 * Config.fwLen) = 67 + 4 * Config.fwLen := by omega
  exact hsteps ▸ afterBurst_eq s ▸ hwake.trans hburst

@[simp] theorem jump_answer (t : Byte) (s : State) : (jump t s).answer = s.answer := rfl

theorem afterBurst_answer (s : State) : (afterBurst s).answer = fun k => s.answer (19 + Config.fwLen + k) := by
  simp [afterBurst]

theorem afterLaser_eq (s : State) :
    latch .rdval ((afterBurst s).answer 1) (passed (bootTraceLaser (afterBurst s).answer) 4 14 (afterBurst s)) =
      latch .rdval (s.answer (20 + Config.fwLen))
        (jump 0x54#8 (index Config.fwLen (passed (initTrace s.answer) (23 + Config.fwLen) 0 (setUp s)))) := by
  have hread : 19 + Config.fwLen + 1 = 20 + Config.fwLen := by omega
  have hanswers : 19 + Config.fwLen + 4 = 23 + Config.fwLen := by omega
  rw [afterBurst_answer]
  simp only [afterBurst, passed_jump, passed_index, passed_passed, hread, hanswers]
  rfl

/-- INIT behind its acceptance. -/
theorem runs_init {s : State} (h : OnRom s) (hupc : s.upc = 0x00#8) :
    Runs (82 + 4 * Config.fwLen) s
      { latch .rdval (s.answer (20 + Config.fwLen))
          (jump 0x54#8 (index Config.fwLen (passed (initTrace s.answer) (23 + Config.fwLen) 0 (setUp s)))) with
        session := .ready, busy := false, done := true } := by
  have hrom : OnRom (afterBurst s) := ((h.setUp.passed _ _ _).index _).jump _
  have hlaser := runs_expanded hrom ⟨listing.drop 0x55, rfl⟩ rfl (execAll_laserAccesses ⟨rfl, rfl, rfl⟩)
  rw [afterLaser_eq] at hlaser
  have hsteps : 67 + 4 * Config.fwLen + 15 = 82 + 4 * Config.fwLen := by omega
  exact hsteps ▸ (runs_toBurst h hupc).trans hlaser

/-- Settles O20: acceptance, then the routine. -/
theorem initRunsToReady : Obligations.InitRunsToReady := by
  intro s n h hb hs hp hq
  have hrun := runs_init (s := accept 0b00#2 n s) (onRom_accept h n) rfl
  have hsteps : 83 + 4 * Config.fwLen = 82 + 4 * Config.fwLen + 1 := by omega
  rw [hsteps] at hq ⊢
  rw [runSteps_command h hb (admitted_iff.mpr (.inl ⟨hs, rfl⟩)) hp hq hrun]
  refine congrArg Host.Outcome.next ?_
  ext : 1
  all_goals simp [atPorts, latch, setUp, index]

end Sys2Proof.Machine

/-! ## Proofs: the trace of INIT is the boot scenario (spec/42_boot_sequencer.md section 1, 90_conflicts.md C1, C2) -/

namespace Sys2Proof.Machine

/-! ### Lengths and waits -/

theorem totalWait_append (tr tr' : List Event) : totalWait (tr ++ tr') = totalWait tr + totalWait tr' := by
  simp [totalWait]

@[simp] theorem writeTrace_length (a : Addr7) (v rx0 rx1 : Byte) : (writeTrace a v rx0 rx1).length = 6 := rfl
@[simp] theorem readTrace_length (a : Addr7) (rx0 v : Byte) : (readTrace a rx0 v).length = 6 := rfl
@[simp] theorem totalWait_writeTrace (a : Addr7) (v rx0 rx1 : Byte) : totalWait (writeTrace a v rx0 rx1) = 120 := rfl
@[simp] theorem totalWait_readTrace (a : Addr7) (rx0 v : Byte) : totalWait (readTrace a rx0 v) = 20 := rfl

theorem imageTrace_length (ans : Nat → Byte) : (imageTrace ans).length = 2 * Config.fwLen := by
  simp [imageTrace, Nat.mul_comm]

theorem totalWait_imageTrace (ans : Nat → Byte) : totalWait (imageTrace ans) = 15 * Config.fwLen := by
  simp [imageTrace, totalWait, List.flatMap_def, List.sum_flatten, Function.comp_def, Event.floor, Nat.mul_comm]

theorem initTrace_length (ans : Nat → Byte) : (initTrace ans).length = 79 + 2 * Config.fwLen := by
  simp [initTrace, bootTraceWake, bootTraceDownload, burstTrace, bootTraceLaser, imageTrace_length]
  omega

theorem totalWait_initTrace (ans : Nat → Byte) : totalWait (initTrace ans) = 71735 + 15 * Config.fwLen := by
  simp only [initTrace, bootTraceWake, bootTraceDownload, burstTrace, bootTraceLaser, totalWait_append,
    totalWait_writeTrace, totalWait_readTrace, totalWait_imageTrace]
  simp [totalWait, Event.floor]
  omega

/-! ### Frames -/

theorem framesFrom_writeTrace (a : Addr7) (v rx0 rx1 : Byte) (tr : List Event) :
    framesFrom none (writeTrace a v rx0 rx1 ++ tr) = [writeCommand a, v] :: framesFrom none tr := by
  simp [writeTrace, framesFrom, writeCommand_eq]

theorem framesFrom_readTrace (a : Addr7) (rx0 v : Byte) (tr : List Event) :
    framesFrom none (readTrace a rx0 v ++ tr) = [readCommand a, 0x00#8] :: framesFrom none tr := by
  simp [readTrace, framesFrom, readCommand_eq]

/-- Image bytes lengthen the frame in progress. -/
theorem framesFrom_image (bs : List Byte) (l : List Nat) (ans : Nat → Byte) (tr : List Event) :
    framesFrom (some bs) ((l.flatMap fun i => [.xfer (Config.fw i) (ans i), .delay 15]) ++ tr) =
      framesFrom (some (bs ++ l.map Config.fw)) tr := by
  induction l generalizing bs with
  | nil => simp
  | cons i l ih => simp [framesFrom, ih]

theorem framesFrom_burstTrace (ans : Nat → Byte) (tr : List Event) :
    framesFrom none (burstTrace ans ++ tr) =
      (writeCommand Config.regSromLoadBurst :: firmwareImage) :: framesFrom none tr := by
  have hcmd : writeCommand Config.regSromLoadBurst = 0xE2#8 := by decide
  simp [burstTrace, imageTrace, framesFrom, framesFrom_image, hcmd, firmwareImage]

/-- The bytes of a frame (R92 to R95). -/
def frameBytes (i : Instr) : List Byte :=
  match encode i with
  | .frame bs => bs
  | _ => []

/-- The twelve transactions of the boot scenario; `v` is the laser-control byte read. -/
def bootScenario (v : Byte) : List Instr :=
  [.singleWrite 0x3A#7 0x5A#8, .singleRead Config.regMotion, .singleRead Config.regDeltaXL,
    .singleRead Config.regDeltaXH, .singleRead Config.regDeltaYL, .singleRead Config.regDeltaYH,
    .singleWrite 0x39#7 0x02#8, .singleWrite 0x13#7 0x1D#8, .singleWrite 0x13#7 0x18#8, .burstWrite,
    .singleRead 0x20#7, .singleWrite 0x20#7 (v &&& 0xF0#8)]

theorem framesOf_initTrace (ans : Nat → Byte) :
    framesOf (initTrace ans) = (bootScenario (ans (20 + Config.fwLen))).map frameBytes := by
  have hread : 19 + Config.fwLen + 1 = 20 + Config.fwLen := by omega
  simp [framesOf, initTrace, bootTraceWake, bootTraceDownload, bootTraceLaser, List.append_assoc, framesFrom,
    framesFrom_writeTrace, framesFrom_readTrace, framesFrom_burstTrace, bootScenario, frameBytes, encode, hread]

/-- A frame of the boot scenario reads back as the transaction it is (`decode_encode`). -/
theorem decodeFrame_bootScenario {v : Byte} {i : Instr} (hi : i ∈ bootScenario v) :
    decodeFrame (frameBytes i) = .ok i := by
  obtain ⟨hframe, hwf⟩ : encode i = .frame (frameBytes i) ∧ WellFormed i = true := by
    simp only [bootScenario, List.mem_cons, List.not_mem_nil, or_false] at hi
    rcases hi with rfl | rfl | rfl | rfl | rfl | rfl | rfl | rfl | rfl | rfl | rfl | rfl <;> exact ⟨rfl, rfl⟩
  have hdecode := decode_encode i hwf
  rwa [hframe] at hdecode

/-- Settles O21: each frame of the trace is the bytes of its transaction, which decode to it. -/
theorem initTraceIsTheBootScenario : Obligations.InitTraceIsTheBootScenario := by
  intro ans
  refine ⟨initTrace_length ans, totalWait_initTrace ans, ?_⟩
  rw [framesOf_initTrace, List.map_map]
  exact List.map_congr_left fun i hi => decodeFrame_bootScenario hi

end Sys2Proof.Machine

/-! ## Proofs: the ticks of a word and the waveform of a transfer (spec/70_reset_and_hazards.md R270 to R273)

`midWord m b s` is the state `m` ticks into the word that starts in `s`, with `b` in the shifter. Each tick inside the word
leads from one such state to the next, the last one executes the word, and by then the shifter of a transfer holds the
sensor's answer, since each of its bits was sampled at the rising edge of its own period (`Collected`). -/

namespace Sys2Proof.Machine

/-! ### The shifter -/

theorem getLsbD_setBit (b : Byte) (k : Nat) (v : Bool) (n : Nat) (hn : n < 8) :
    (setBit b k v).getLsbD n = if n = k then v else b.getLsbD n := by
  by_cases hk : n = k
  · subst hk
    cases v <;> simp [setBit, hn]
  · cases v <;> simp [setBit, hn, hk]

/-- `m` ticks into the word that starts in `s`, with `b` in the shifter. -/
def midWord (m : Nat) (b : Byte) (s : State) : State := { s with tph := m, rxsh := b }

/-- What the edge after `m` ticks of a transfer leaves in the shifter (R273). -/
def shifted (m : Nat) (b : Byte) (s : State) : Byte :=
  if (m + 1) % (2 * Config.sckHalf) = Config.sckHalf then
    setBit b (7 - m / (2 * Config.sckHalf)) ((s.answer 0).getLsbD (7 - m / (2 * Config.sckHalf)))
  else b

theorem shiftIn_midWord (m : Nat) (b : Byte) (s : State) :
    shiftIn (midWord m b s) = midWord m (shifted m b s) s := by
  unfold shiftIn samplesNow shifted
  simp only [midWord, beq_iff_eq]
  split_ifs <;> rfl

theorem innerTick_midWord {i : Instr} {m : Nat} (hm : m + 1 < 2 ^ Config.wcntW) (b : Byte) (s : State) :
    innerTick i (midWord m b s) = midWord (m + 1) (if isTransfer i then shifted m b s else b) s := by
  have hcount : (m + 1) % 2 ^ Config.wcntW = m + 1 := Nat.mod_eq_of_lt hm
  unfold innerTick
  rw [shiftIn_midWord]
  split_ifs
  · simp only [midWord, hcount]
  · simp only [midWord, hcount]

/-- The bits whose rising edge has come by `m` ticks are those of the answer. -/
def Collected (s : State) (m : Nat) (b : Byte) : Prop :=
  ∀ j < 8, (2 * j + 1) * Config.sckHalf ≤ m → b.getLsbD (7 - j) = (s.answer 0).getLsbD (7 - j)

theorem collected_zero (s : State) (b : Byte) : Collected s 0 b := by
  intro j _ hj
  have hpos : 0 < (2 * j + 1) * Config.sckHalf := Nat.mul_pos (Nat.succ_pos _) sckHalf_pos
  omega

/-- The rising edge of bit `j` (R273). -/
theorem samples_at {m j : Nat} (hj : (2 * j + 1) * Config.sckHalf = m + 1) :
    (m + 1) % (2 * Config.sckHalf) = Config.sckHalf ∧ m / (2 * Config.sckHalf) = j := by
  have hpos := sckHalf_pos
  have hsum : 2 * Config.sckHalf * j + Config.sckHalf = m + 1 := by rw [← hj]; ring
  refine ⟨?_, ?_⟩
  · rw [← hsum, Nat.mul_add_mod, Nat.mod_eq_of_lt (by omega)]
  · have hm : m = 2 * Config.sckHalf * j + (Config.sckHalf - 1) := by omega
    rw [hm, Nat.mul_add_div (by omega), Nat.div_eq_of_lt (by omega), Nat.add_zero]

theorem Collected.shifted {s : State} {m : Nat} {b : Byte} (h : Collected s m b) :
    Collected s (m + 1) (shifted m b s) := by
  intro j hj hm
  by_cases hnow : (m + 1) % (2 * Config.sckHalf) = Config.sckHalf ∧ 7 - j = 7 - m / (2 * Config.sckHalf)
  · obtain ⟨hsample, hbit⟩ := hnow
    rw [Machine.shifted, if_pos hsample, getLsbD_setBit _ _ _ _ (by omega), if_pos hbit, hbit]
  · have hearlier : (2 * j + 1) * Config.sckHalf ≤ m := by
      refine Nat.le_of_lt_succ (lt_of_le_of_ne hm fun heq => hnow ?_)
      obtain ⟨hsample, hbit⟩ := samples_at heq
      exact ⟨hsample, by rw [hbit]⟩
    rw [← h j hj hearlier, Machine.shifted]
    split_ifs with hsample
    · rw [getLsbD_setBit _ _ _ _ (by omega), if_neg fun hbit => hnow ⟨hsample, hbit⟩]
    · rfl

/-- In the last tick of a transfer the shifter holds the answer (R273). -/
theorem Collected.complete {s : State} {m : Nat} {b : Byte} (h : Collected s m b) (hm : m + 1 = transferTicks) :
    b = s.answer 0 := by
  refine BitVec.eq_of_getLsbD_eq fun n hn => ?_
  have hle : (2 * (7 - n) + 1) * Config.sckHalf ≤ m := by
    have hpos := sckHalf_pos
    have hperiods : (2 * (7 - n) + 1) * Config.sckHalf ≤ 15 * Config.sckHalf := Nat.mul_le_mul_right _ (by omega)
    rw [transferTicks] at hm
    omega
  simpa [show 7 - (7 - n) = n by omega] using h (7 - n) (by omega) hle

/-! ### The last tick -/

theorem duration_of_isTransfer {i : Instr} (h : isTransfer i = true) : duration i = transferTicks := by
  cases i with
  | txi _ _ | txf | txr | txm _ => rfl
  | _ => exact nomatch h

/-- A micro-operation takes a tick at least (R271). -/
theorem duration_pos_of_word {i : Instr} (hw : isWord i = true) (hwf : WellFormed i = true) : 0 < duration i := by
  cases i with
  | waitm n =>
    have hn : n ≠ 0#12 := bne_iff_ne.mp hwf
    exact ticksUs_pos (by bv_omega)
  | init | getConfig | setConfig _ | getReport | wr _ _ | rd _ _ | singleWrite _ _ | singleRead _ | burstWrite
  | burstRead => exact nomatch hw
  | _ => exact duration_pos hwf rfl

section
variable {i : Instr} {b : Byte} {s : State} (m : Nat)

theorem stop_withShifted : stop i (withShifted i (midWord m b s)) = stop i s := by
  unfold withShifted
  split_ifs
  · cases i <;> rfl
  · cases i <;> rfl

theorem withShifted_midWord (h : isTransfer i = true) :
    withShifted i (midWord m b s) = { midWord m b s with answers := b :: s.answers.drop 1 } := by
  rw [List.drop_one]
  exact if_pos h

theorem effect_withShifted (hw : isWord i = true) (hb : isTransfer i = true → b = s.answer 0) :
    effect i (withShifted i (midWord m b s)) = midWord m b (effect i s) := by
  cases i with
  | txi dst imm =>
    obtain rfl := hb rfl
    rw [withShifted_midWord m rfl]
    cases dst <;> rfl
  | txf | txr | txm mask =>
    obtain rfl := hb rfl
    rw [withShifted_midWord m rfl]
    rfl
  | init | getConfig | setConfig _ | getReport | wr _ _ | rd _ _ | singleWrite _ _ | singleRead _ | burstWrite
  | burstRead => exact nomatch hw
  | fwbr t => exact (apply_ite (midWord m b) (s.fwIdx = Config.fwLen) (jump t s) (advance s)).symm
  | _ => rfl

/-- The last tick does what the event-level rule does, with the count restarted (R270, R273). -/
theorem restartTicks_exec (hw : isWord i = true) (hb : isTransfer i = true → b = s.answer 0) :
    restartTicks (exec i (withShifted i (midWord m b s))) =
      andThen (exec i s) fun t => .next { t with tph := 0, rxsh := b } := by
  rw [exec_outcome, exec_outcome, stop_withShifted, effect_withShifted m hw hb]
  cases stop i s <;> rfl

end

/-! ### The ticks of a word -/

/-- From `m` ticks into a word, as many edges as are left of its duration. -/
theorem tickRun_midWord {i : Instr} {s : State} (hb : s.busy = true) (hi : fetch s = .ok i)
    (hfit : duration i ≤ 2 ^ Config.wcntW) {ps : List Ports} (hps : ∀ p ∈ ps, p.rst = false) (hne : ps ≠ []) {m : Nat}
    (hlen : m + ps.length = duration i) {b : Byte}
    (hc : isTransfer i = true → Collected s m b) :
    tickRun ps (midWord m b s) =
      andThen (exec i s) fun t => .next { t with tph := 0, rxsh := if isTransfer i then s.answer 0 else b } := by
  induction ps generalizing m b with
  | nil => exact absurd rfl hne
  | cons p ps ih =>
    obtain ⟨hp, hps⟩ := List.forall_mem_cons.mp hps
    rw [List.length_cons] at hlen
    cases ps with
    | nil =>
      have hcomplete (ht : isTransfer i = true) : b = s.answer 0 := (hc ht).complete (by
        rw [← duration_of_isTransfer ht, ← hlen, List.length_nil])
      have hrx : (if isTransfer i then s.answer 0 else b) = b := by
        split_ifs with ht
        · exact (hcomplete ht).symm
        · rfl
      rw [hrx, ← restartTicks_exec m (isWord_of_decodeW16 hi) hcomplete, tickRun,
        tick_last (s := midWord m b s) hp hb hi (by rw [← hlen, List.length_nil]; rfl)]
      cases restartTicks (exec i (withShifted i (midWord m b s))) <;> rfl
    | cons q ps =>
      have hinner : m + 1 < duration i := by
        rw [List.length_cons] at hlen
        omega
      have hnext := ih hps (List.cons_ne_nil q ps) (m := m + 1) (b := if isTransfer i then shifted m b s else b)
        (by omega) fun ht => by rw [if_pos ht]; exact (hc ht).shifted
      rw [tickRun, tick_inner (s := midWord m b s) hp hb hi hinner, andThen_next,
        innerTick_midWord (hinner.trans_le hfit), hnext]
      split_ifs <;> rfl

/-- Settles O53: a word's ticks from the first one on; at an idle edge `tick` is the event-level rule. -/
theorem ticksRefineTheStep : Obligations.TicksRefineTheStep := by
  refine ⟨fun s i ps hb htph hi hfit hlen hps => ?_, fun s p hb hp => ⟨fun hv => ?_, tick_nothing hp hb⟩⟩
  · obtain ⟨-, hwf⟩ := encode_of_decodeW16 hi
    have hpos := duration_pos_of_word (isWord_of_decodeW16 hi) hwf
    have hstart : midWord 0 s.rxsh s = s := by rw [midWord, ← htph]
    have hrun := tickRun_midWord hb hi hfit hps (List.length_pos_iff.mp (hlen ▸ hpos)) (by omega)
      fun _ => collected_zero s s.rxsh
    rwa [hstart] at hrun
  · simp [tick, hp, hb, hv]

/-! ### The waveform (R129, R272) -/

/-- The transfers are the words with `OP` from 0x5 to 0x8 (R97). -/
theorem isTransfer_iff {w : Half} {i : Instr} (h : decodeW16 w = .ok i) :
    isTransfer i = true ↔ 5 ≤ w.toNat / 4096 ∧ w.toNat / 4096 ≤ 8 := by
  obtain ⟨hw, -⟩ := encode_of_decodeW16 h
  rw [← opField_toNat]
  cases i with
  | init | getConfig | setConfig _ | getReport | wr _ _ | rd _ _ | singleWrite _ _ | singleRead _ | burstWrite
  | burstRead => exact nomatch hw
  | _ =>
    cases hw
    simp [isTransfer]

/-- Bit `j` of a transfer and the half of it, from the tick count. -/
theorem tick_of_bit {j k : Nat} (hk : k < 2 * Config.sckHalf) :
    (2 * j * Config.sckHalf + k) / (2 * Config.sckHalf) = j ∧
      ((2 * j * Config.sckHalf + k) / Config.sckHalf) % 2 = if Config.sckHalf ≤ k then 1 else 0 := by
  have hpos := sckHalf_pos
  refine ⟨?_, ?_⟩
  · rw [show 2 * j * Config.sckHalf = 2 * Config.sckHalf * j by ring, Nat.mul_add_div (by omega),
      Nat.div_eq_of_lt hk, Nat.add_zero]
  · rw [show 2 * j * Config.sckHalf = Config.sckHalf * (2 * j) by ring, Nat.mul_add_div hpos, Nat.mul_add_mod]
    split_ifs with hhalf
    · have hone : k / Config.sckHalf = 1 := Nat.div_eq_of_lt_le (by omega) (by omega)
      rw [hone]
    · rw [Nat.div_eq_of_lt (by omega)]

theorem transferNow_eq_some {s : State} {i : Instr} (hb : s.busy = true) (hi : fetch s = .ok i)
    (ht : isTransfer i = true) : transferNow s = some i := by
  simp [transferNow, hb, hi, ht]

/-- The two pins in tick `k` of bit `j` of a transfer. -/
theorem pins_transfer {s : State} {i : Instr} {j k : Nat} (hnow : transferNow s = some i)
    (hk : k < 2 * Config.sckHalf) (htph : s.tph = 2 * j * Config.sckHalf + k) :
    (pins s).sck = decide (Config.sckHalf ≤ k) ∧ (pins s).mosi = (transmitByte i s).getLsbD (7 - j) := by
  obtain ⟨hbit, hhalf⟩ := tick_of_bit (j := j) hk
  refine ⟨?_, ?_⟩
  · simp only [pins, sckNow, hnow, htph, hhalf]
    split_ifs with h <;> simp [h]
  · simp only [pins, mosiNow, hnow, bitNow, htph, hbit]

/-- Outside a transfer the lines idle. -/
theorem pins_idle {s : State} (hnow : transferNow s = none) : (pins s).sck = true ∧ (pins s).mosi = false := by
  simp [pins, sckNow, mosiNow, hnow]

/-- The byte recorded is the transmit byte (R124). -/
theorem exec_transfer_trace {i : Instr} {s t : State} (ht : isTransfer i = true) (h : exec i s = .next t) :
    t.trace = s.trace ++ [.xfer (transmitByte i s) (s.answer 0)] := by
  cases i with
  | txi _ _ | txf | txr | txm _ => exact (exec_word rfl h).2.1
  | _ => exact nomatch ht

/-- Settles O54: the lines follow the transmit byte, which is the byte that the XFER records. -/
theorem transferWaveform : Obligations.TransferWaveform := by
  refine ⟨fun w i => isTransfer_iff, fun s => ⟨?_, fun hb => pins_idle ?_, fun i hi ht => pins_idle ?_⟩⟩
  · intro i j k hb hi ht _ hk htph
    obtain ⟨hsck, hmosi⟩ := pins_transfer (transferNow_eq_some hb hi ht) hk htph
    refine ⟨hsck, ?_, ?_, ?_, ?_, fun t hexec => ⟨_, exec_transfer_trace ht hexec, hmosi⟩⟩
    · rintro dst imm rfl; exact hmosi
    · rintro rfl; exact hmosi
    · rintro rfl; exact hmosi
    · rintro mask rfl; exact hmosi
  · simp [transferNow, hb]
  · simp [transferNow, hi, ht]

end Sys2Proof.Machine
